-- ==== Sys2Proof/Word.lean ====
section
/-! DEFINITION. The word types of the wide-counter search block and the Wide128 pair (00_scope.md
section 6, 10_state.md rule R10). Only types and their plain reading stand here; every operation on
them is in Sys2Proof/Machine. -/

namespace Sys2Proof

/-- One byte of the 16-byte target or result (R11, R41). -/
abbrev Byte := BitVec 8

/-- One half of a Wide128, and one host-visible register: 64 bits (R3, R12). -/
abbrev Word := BitVec 64

/-- A command word of the command port: 32 bits (R60, R61). -/
abbrev CmdWord := BitVec 32

/-- A register number: 8 bits, read as is (R12, R63). -/
abbrev RegNum := BitVec 8

/-- A Wide128: the ordered pair (low, high) of 64-bit unsigned halves (R10). -/
structure Wide where
  lo : Word
  hi : Word
  deriving DecidableEq, Repr

/-- The number a Wide128 stands for, `high * 2^64 + low` (R10). -/
def Wide.val (a : Wide) : Nat := a.hi.toNat * 2 ^ 64 + a.lo.toNat

end Sys2Proof
end

