-- ==== Sys2Proof/Syntax.lean ====
section
/-! DEFINITION. The instructions of the block: the ten host commands (30_encoding.md rule R62) and the
nine lane micro-operations (rule R68), one constructor for each row of spec/opcode_table.json; the
register names (rule R63), the lane phases (rule R68) and the fields of a command word (rule R61). -/

namespace Sys2Proof

/-- The 23 implemented registers, by name (R12, R63). -/
inductive Reg where
  | tgtlo | tgthi | baselo | basehi | lanes | quota
  | flag | fndlo | fndhi
  | total | rsltlo | rslthi
  | status | fcode | finfo
  | opalo | opahi | opd | opx | opq | reslo | reshi | uflags
  deriving DecidableEq, Repr

/-- The ten phases of a lane (R26, R68). `ret` is the phase of a lane that has returned (R115). -/
inductive Phase where
  | chk0 | start | loop | chk | cmp | cas | wrlo | wrhi | inc | ret
  deriving DecidableEq, Repr

/-- The instructions. A `WRR` or `RDR` carries its 8-bit register number whether or not that number is
implemented: an unimplemented one decodes and then faults (R71). The 64-bit operand of `WRR` is no
part of the command word; it arrives on `cmd_wdata` (R70). A lane micro-operation has no operand: the
lane that takes the step is the one whose turn it is. -/
inductive Instr where
  | nop
  | wrr (reg : RegNum)
  | rdr (reg : RegNum)
  | wadd
  | lstart
  | bmatch
  | breset
  | launch
  | sync
  | next
  | lChk0
  | lStart
  | lLoop
  | lChk
  | lCmp
  | lCas
  | lWrlo
  | lWrhi
  | lInc
  deriving DecidableEq, Repr

/-- The three fields of a command word, `OP[31:24] REG[23:16] ZERO[15:0]` (R61). -/
structure CmdFields where
  op : BitVec 8
  reg : RegNum
  zero : BitVec 16
  deriving DecidableEq, Repr

/-- The code of an instruction: a command word on the command port (R61), or the phase code of the lane
that executes it (R68). The two code spaces never meet: a phase code is on no port. -/
inductive Code where
  | command (w : CmdWord)
  | phase (c : BitVec 4)
  deriving DecidableEq, Repr

end Sys2Proof
end

