-- ==== Sys2Proof/WellFormed.lean ====
section
/-! DEFINITION. When the fields of a command word form a command, and when a phase has a
micro-operation (30_encoding.md rules R61, R66, R71; 43_search_kernel.md rule R115). A term of Instr
needs no check of its own: the type of its one operand, an 8-bit register number, holds exactly the
values the encoding admits. -/

namespace Sys2Proof

/-- The opcodes that use REG: `WRR` and `RDR` (R62). -/
def usesReg (op : BitVec 8) : Bool := op == 0x01#8 || op == 0x02#8

/-- The ten opcodes of the opcode map (R62); every other OP value is illegal (R66). -/
def listedOp (op : BitVec 8) : Bool :=
  [0x00#8, 0x01#8, 0x02#8, 0x10#8, 0x11#8, 0x12#8, 0x20#8, 0x21#8, 0x22#8, 0x23#8].contains op

/-- ZERO must be 0x0000 (R61, R66). -/
def CmdFields.zeroClear (f : CmdFields) : Bool := f.zero == 0#16

/-- OP must be one of the ten (R62, R66). -/
def CmdFields.opListed (f : CmdFields) : Bool := listedOp f.op

/-- REG must be 0x00 for every command but `WRR` and `RDR` (R61, R66). -/
def CmdFields.regClear (f : CmdFields) : Bool := usesReg f.op || f.reg == 0#8

/-- The fields form a command exactly when none of R66's three grounds for an illegal encoding holds. -/
def CmdFields.wellFormed (f : CmdFields) : Bool := f.zeroClear && f.opListed && f.regClear

/-- A lane in phase `ret` has no micro-operation (R115); every other phase has one (R68). -/
def Phase.hasOperation (p : Phase) : Bool := p != .ret

end Sys2Proof
end

