-- ==== Sys2Proof/Decode.lean ====
section
/-! DEFINITION. Decoding and encoding: command words (30_encoding.md rules R61, R62, R71), register
numbers (R63), phase codes (R68). Decoding is total; a word or code that is no instruction is rejected
by the name of the first test that fails. -/

namespace Sys2Proof

/-- Why a code is no instruction. The first three are R66's illegal encodings of a command word, in the
order R71 tests them; the last two are the phase codes without a micro-operation (R68, R115). -/
inductive Reject where
  /-- `ZERO != 0`: raised on the port as `ILLEGAL_CMD` (R66). -/
  | zeroField
  /-- `REG != 0` on an opcode that is neither `WRR` nor `RDR`: raised as `ILLEGAL_CMD` (R66). -/
  | regField
  /-- `OP` is not listed: raised as `ILLEGAL_CMD` (R66). -/
  | opcode
  /-- The phase code of `RET`: the lane has returned and takes no step (R115). -/
  | returned
  /-- The phase codes 0xA to 0xF, which never occur (R68). -/
  | noPhase
  deriving DecidableEq, Repr

/-- The fields of a command word (R61). -/
def splitWord (w : CmdWord) : CmdFields :=
  { op := w.extractLsb' 24 8, reg := w.extractLsb' 16 8, zero := w.extractLsb' 0 16 }

/-- The command word with given fields, `OP[31:24] REG[23:16] ZERO[15:0]` (R61). -/
def joinWord (f : CmdFields) : CmdWord := f.op ++ f.reg ++ f.zero

/-- R71's decoding, over the fields of the word, its tests in R71's order. -/
def decodeFields (f : CmdFields) : Except Reject Instr :=
  if f.zero ≠ 0#16 then .error .zeroField
  else if f.op = 0x01#8 then .ok (.wrr f.reg)
  else if f.op = 0x02#8 then .ok (.rdr f.reg)
  else if f.reg ≠ 0#8 then .error .regField
  else if f.op = 0x00#8 then .ok .nop
  else if f.op = 0x10#8 then .ok .wadd
  else if f.op = 0x11#8 then .ok .lstart
  else if f.op = 0x12#8 then .ok .bmatch
  else if f.op = 0x20#8 then .ok .breset
  else if f.op = 0x21#8 then .ok .launch
  else if f.op = 0x22#8 then .ok .sync
  else if f.op = 0x23#8 then .ok .next
  else .error .opcode

/-- `decode(w)` of R71. -/
def decodeCommand (w : CmdWord) : Except Reject Instr := decodeFields (splitWord w)

/-- The 4-bit phase codes (R68). -/
def Phase.code : Phase → BitVec 4
  | .chk0 => 0x0#4
  | .start => 0x1#4
  | .loop => 0x2#4
  | .chk => 0x3#4
  | .cmp => 0x4#4
  | .cas => 0x5#4
  | .wrlo => 0x6#4
  | .wrhi => 0x7#4
  | .inc => 0x8#4
  | .ret => 0x9#4

/-- All ten phases, in the order of their codes (R68). -/
def Phase.all : List Phase := [.chk0, .start, .loop, .chk, .cmp, .cas, .wrlo, .wrhi, .inc, .ret]

/-- The phase with a given code, if any; codes 0xA to 0xF never occur (R68). -/
def Phase.ofCode (c : BitVec 4) : Option Phase := Phase.all.find? (fun p => p.code == c)

/-- The micro-operation executed in a phase has the phase's name (R68). -/
def phaseInstr : Phase → Except Reject Instr
  | .chk0 => .ok .lChk0
  | .start => .ok .lStart
  | .loop => .ok .lLoop
  | .chk => .ok .lChk
  | .cmp => .ok .lCmp
  | .cas => .ok .lCas
  | .wrlo => .ok .lWrlo
  | .wrhi => .ok .lWrhi
  | .inc => .ok .lInc
  | .ret => .error .returned

/-- The micro-operation a phase code selects (R68). -/
def decodePhase (c : BitVec 4) : Except Reject Instr :=
  match Phase.ofCode c with
  | some p => phaseInstr p
  | none => .error .noPhase

/-- Decoding over both code spaces. -/
def decode : Code → Except Reject Instr
  | .command w => decodeCommand w
  | .phase c => decodePhase c

/-- The register numbers (R12, R63). -/
def Reg.num : Reg → RegNum
  | .tgtlo => 0x00#8
  | .tgthi => 0x01#8
  | .baselo => 0x02#8
  | .basehi => 0x03#8
  | .lanes => 0x04#8
  | .quota => 0x05#8
  | .flag => 0x08#8
  | .fndlo => 0x09#8
  | .fndhi => 0x0A#8
  | .total => 0x0C#8
  | .rsltlo => 0x0D#8
  | .rslthi => 0x0E#8
  | .status => 0x10#8
  | .fcode => 0x11#8
  | .finfo => 0x12#8
  | .opalo => 0x18#8
  | .opahi => 0x19#8
  | .opd => 0x1A#8
  | .opx => 0x1B#8
  | .opq => 0x1C#8
  | .reslo => 0x1D#8
  | .reshi => 0x1E#8
  | .uflags => 0x1F#8

/-- All 23 registers, in the order of their numbers (R12). -/
def Reg.all : List Reg :=
  [.tgtlo, .tgthi, .baselo, .basehi, .lanes, .quota, .flag, .fndlo, .fndhi, .total, .rsltlo, .rslthi,
    .status, .fcode, .finfo, .opalo, .opahi, .opd, .opx, .opq, .reslo, .reshi, .uflags]

/-- The register a number names; `none` for an unimplemented number (R12, R19). -/
def Reg.ofNum (n : RegNum) : Option Reg := Reg.all.find? (fun r => r.num == n)

/-- The command word with an opcode and a register number, ZERO clear (R62). -/
def commandWord (op : BitVec 8) (reg : RegNum) : Code :=
  .command (joinWord { op := op, reg := reg, zero := 0#16 })

/-- The encoder: the word of R62 for a host command, the phase code of R68 for a micro-operation. -/
def encode : Instr → Code
  | .nop => commandWord 0x00#8 0#8
  | .wrr r => commandWord 0x01#8 r
  | .rdr r => commandWord 0x02#8 r
  | .wadd => commandWord 0x10#8 0#8
  | .lstart => commandWord 0x11#8 0#8
  | .bmatch => commandWord 0x12#8 0#8
  | .breset => commandWord 0x20#8 0#8
  | .launch => commandWord 0x21#8 0#8
  | .sync => commandWord 0x22#8 0#8
  | .next => commandWord 0x23#8 0#8
  | .lChk0 => .phase Phase.chk0.code
  | .lStart => .phase Phase.start.code
  | .lLoop => .phase Phase.loop.code
  | .lChk => .phase Phase.chk.code
  | .lCmp => .phase Phase.cmp.code
  | .lCas => .phase Phase.cas.code
  | .lWrlo => .phase Phase.wrlo.code
  | .lWrhi => .phase Phase.wrhi.code
  | .lInc => .phase Phase.inc.code

/-- The code that spec/opcode_table.json's bits stand for: a row of at most one byte is a phase code of
4 bits (format LANE_PHASE), every other row a 32-bit command word (format CMD). Command words arrive
whole on a 32-bit port, so no byte order arises (R41, R60). -/
def tableCode (nbits w : Nat) : Option Code :=
  if nbits ≤ 8 then (if w < 16 then some (.phase (BitVec.ofNat 4 w)) else none)
  else some (.command (BitVec.ofNat 32 w))

/-- The instruction the decoder reads from the bits of an opcode-table row. -/
def decodeTableWord (nbits w : Nat) : Option Instr :=
  match tableCode nbits w with
  | none => none
  | some c =>
    match decode c with
    | .ok i => some i
    | .error _ => none

end Sys2Proof
end

