-- ==== Sys2Proof/Config.lean ====
section
/-! DEFINITION. What the spec leaves to the implementation (R3, R29) and the free values of the model.
Every constant here is opaque: it has no body, nothing in Lean can evaluate it, and a theorem that
mentions it holds whatever it is. -/

namespace Sys2Proof.Config

/-- The OPEN parameter behind MAX_LANES, as a 64-bit word (R3, D5). -/
opaque maxLanesWord : Word

/-- `MAX_LANES`: the largest legal lane count. OPEN with `1 <= MAX_LANES <= 2^64 - 1` (R3, D5); every
value of that range is taken by some `maxLanesWord`, and no other (log entry 1). -/
def maxLanes : Nat := max 1 maxLanesWord.toNat

/-- The unspecified 64-bit value of the n-th draw, returned by `RDR` in `Fault` for a register other
than STATUS, FCODE, FINFO (R176, U16; log entry 2). -/
opaque faultRead : Nat → Word

/-- FLAG.CLAIMED after a fault raised in `Running`: unspecified (R188, U17; log entry 3). -/
opaque abandonedFlag : Nat → Bool

/-- FNDLO after a fault raised in `Running`: unspecified (R188, U17; log entry 3). -/
opaque abandonedFndlo : Nat → Word

/-- FNDHI after a fault raised in `Running`: unspecified (R188, U17; log entry 3). -/
opaque abandonedFndhi : Nat → Word

/-- `cand` of a lane context before `L.START` writes it: the draw's number and the lane's index choose
it (R25, R105, U18; log entry 4). -/
opaque unsetCand : Nat → Nat → Word × Word

/-- `rem` of a lane context before `L.START` writes it (R25, R105, U18; log entry 4). -/
opaque unsetRem : Nat → Nat → Word

/-- `won` of a lane context before `L.CAS` writes it (R25, R105, U18; log entry 4). -/
opaque unsetWon : Nat → Nat → Bool

end Sys2Proof.Config
end

