-- ==== Sys2Proof/Machine/State.lean ====
section
/-! DEFINITION. The state of the block as plain data: the 22 stored registers of 10_state.md rule R12
(STATUS is a view of `pstate`, R17), the protocol state (R20), the lane contexts (R25), the command port
(30_encoding.md rule R60, R201), and the model's own fields, which carry what R5 and R29 leave to the
environment: which agent moves next, what the host offers, and the draws. The block has no
byte-addressed memory (20_memory.md rule R40), so the state holds none. -/

namespace Sys2Proof.Machine

/-- The protocol state (R20). -/
inductive PState where
  | config | idle | armed | running | synced | doneFound | doneExhausted | fault
  deriving DecidableEq, Repr

/-- The contents of FCODE.CODE: `none` is code 0, the others are R171's fault codes 1 to 5. -/
inductive FaultCode where
  | none | illegalCmd | badReg | protocol | access | dispatch
  deriving DecidableEq, Repr

/-- The fields of UFLAGS (R12, R18); its other bits are no storage (R19). -/
structure UFlags where
  ovf : Bool
  carry : Bool
  matched : Bool
  ptrunc : Bool
  midx : BitVec 5
  deriving DecidableEq, Repr

/-- A lane context (R25). `cand`, `rem` and `won` hold free values from creation until their first write
(U18; log entry 4). -/
structure Lane where
  index : Word
  phase : Phase
  cand : Wide
  rem : Word
  won : Bool
  deriving DecidableEq, Repr

/-- A host command as the host offers it: `cmd_word` and `cmd_wdata` (R60). -/
structure HostCommand where
  word : CmdWord
  wdata : Word
  deriving DecidableEq, Repr

/-- The response signals `rsp_valid`, `rsp_err`, `rsp_rdata` (R60, R65). -/
structure Response where
  valid : Bool
  err : Bool
  rdata : Word
  deriving DecidableEq, Repr

/-- One turn of the schedule (R5, R29): who moves, with the draws that belong to that move.
* `host dispatchFails`: the command port moves; `dispatchFails` is what ENV_DISPATCH_FAIL draws if the
  move is a legal `LAUNCH` (R134, U8).
* `lane i stale`: lane `i` moves; `stale` is the draw of R49 if the move is a flag check.
* `rst level`: the environment drives the reset input (R200). -/
inductive Turn where
  | host (dispatchFails : Bool)
  | lane (index : Nat) (stale : Bool)
  | rst (level : Bool)
  deriving DecidableEq, Repr

/-- The environment's side (model's own; log entries 5, 6 and 7): the turn in progress, as the lane that
moves and the draws of that move, then the commands the host has still to offer and the turns still to
come. A claim about the block holds for every value of these (R29). -/
structure Env where
  lane : Nat
  stale : Bool
  dispatchFails : Bool
  offers : List HostCommand
  turns : List Turn
  deriving DecidableEq, Repr

/-- What the admission table of R22 says of a command: `ok`, `P`, `held`, `X`. -/
inductive Admission where
  | ok | protocol | held | refused
  deriving DecidableEq, Repr

/-- The rows of the admission table of R22. -/
inductive CommandRow where
  | nop | rdr | wrr | unitAccess | breset | launch | sync | next
  deriving DecidableEq, Repr

/-- The access rights of a register (R12). -/
inductive Access where
  | rwConfig | rw | ro
  deriving DecidableEq, Repr

/-- The state of the block. -/
structure State where
  /-- TGTLO, TGTHI (R11, R12). -/
  tgtlo : Word
  tgthi : Word
  /-- BASELO, BASEHI (R14). -/
  baselo : Word
  basehi : Word
  /-- LANES (R15). -/
  lanes : Word
  /-- QUOTA (R15). -/
  quota : Word
  /-- FLAG.CLAIMED (R13); the other bits of FLAG are no storage (R19). -/
  flag : Bool
  /-- FNDLO, FNDHI (R13). -/
  fndlo : Word
  fndhi : Word
  /-- TOTAL (R14). -/
  total : Word
  /-- RSLTLO, RSLTHI (R16). -/
  rsltlo : Word
  rslthi : Word
  /-- The protocol state, read through STATUS.PSTATE (R17, R20). -/
  pstate : PState
  /-- FCODE.CODE (R17, R171). -/
  fcode : FaultCode
  /-- FINFO.CMD (R17, R175). -/
  finfo : CmdWord
  /-- OPALO, OPAHI (R18). -/
  opalo : Word
  opahi : Word
  /-- OPD, OPX, OPQ (R18). -/
  opd : Word
  opx : Word
  opq : Word
  /-- RESLO, RESHI (R18). -/
  reslo : Word
  reshi : Word
  /-- UFLAGS (R18). -/
  uflags : UFlags
  /-- The lane contexts `lane[0]`, `lane[1]`, … (R25); none outside `Running`. -/
  ctx : List Lane
  /-- A `SYNC` is held: accepted, its response still to come (R28, R136). -/
  syncPending : Bool
  /-- The reset input `rst` (R60, R200). -/
  rst : Bool
  /-- The command being executed: the accepted `cmd_word` and `cmd_wdata` (R60). -/
  cmd : HostCommand
  /-- The response signals (R60, R65). -/
  rsp : Response
  /-- The environment's side (model's own). -/
  env : Env
  /-- How many unspecified values have been drawn (model's own; log entries 2, 3, 4). -/
  draws : Nat
  deriving DecidableEq, Repr

/-- Why a step has no successor. Only a lane micro-operation that the rules do not enable ends so, and
`step` never asks for one. -/
inductive Fault where
  /-- Raised by a lane micro-operation when no lane context stands at the turn's lane: outside `Running`
  there are none (R25), after a fault no further lane step is defined (R188, U17: stuck), and at or
  above `LANES` there never was one. Safe: no next state is invented. -/
  | noLaneContext
  /-- Raised by a lane micro-operation when the turn's lane stands in another phase, RET included: a lane
  takes only the step of its phase (R68, R104), and RET has no step (R115). Safe: no next state is
  invented. -/
  | notInPhase
  deriving DecidableEq, Repr

/-- Why the model has no meaning for an instruction. -/
inductive Refusal where
  /-- Raised by no arm of this model; the host's form requires the constructor. Safe. -/
  | notModelled (mnemonic : String)
  deriving DecidableEq, Repr

/-- The response signals with no response presented, all 0 (R201). -/
def Response.none : Response := { valid := false, err := false, rdata := 0 }

/-- UFLAGS with every field 0 (R201). -/
def UFlags.zero : UFlags := { ovf := false, carry := false, matched := false, ptrunc := false, midx := 0 }

/-- The environment's side before anything is asked of the block (log entries 5, 6, 7). -/
def Env.quiet : Env := { lane := 0, stale := false, dispatchFails := false, offers := [], turns := [] }

/-- The machine right after reset (R30, R201): every register zero, `pstate` Config, no lane contexts,
`rst` 0 again, no response presented. `cmd`, `env` and `draws` are the model's (log entries 5 to 8). -/
def State.reset : State :=
  { tgtlo := 0, tgthi := 0, baselo := 0, basehi := 0, lanes := 0, quota := 0
    flag := false, fndlo := 0, fndhi := 0, total := 0, rsltlo := 0, rslthi := 0
    pstate := .config, fcode := .none, finfo := 0
    opalo := 0, opahi := 0, opd := 0, opx := 0, opq := 0, reslo := 0, reshi := 0, uflags := UFlags.zero
    ctx := [], syncPending := false, rst := false
    cmd := { word := 0, wdata := 0 }, rsp := Response.none
    env := Env.quiet, draws := 0 }

end Sys2Proof.Machine
end

