-- ==== Sys2Proof/Machine/Flags.lean ====
section
/-! DEFINITION. Every flag computation of the spec: the carry and overflow of the adder
(41_wide_counter.md rule R80), the product-too-wide flag of the range-offset unit
(42_range_partitioner.md rules R90, R92), the fields each unit-access command writes (10_state.md
rule R18), and the words UFLAGS, FLAG and the code fields read as (R12). -/

namespace Sys2Proof.Machine

/-- `carry = (alo + delta >= 2^w)` on a half of `w` bits; `w` is 64 in the block, and R4 admits a smaller
one as a test device. -/
def carries {w : Nat} (alo delta : BitVec w) : Bool := decide (2 ^ w ≤ alo.toNat + delta.toNat)

/-- `overflow = carry and (ahi = 2^w - 1)` (R80). -/
def overflows {w : Nat} (alo ahi delta : BitVec w) : Bool :=
  carries alo delta && decide (ahi = BitVec.allOnes w)

/-- `p >= 2^64` for the mathematical product of lane index and quota (R90, R92). -/
def productTruncated (index quota : Word) : Bool := decide (2 ^ 64 ≤ index.toNat * quota.toNat)

/-- `WADD` writes OVF and CARRY and leaves MATCH, MIDX, PTRUNC (R82). -/
def UFlags.withAdd (u : UFlags) (ovf carry : Bool) : UFlags := { u with ovf := ovf, carry := carry }

/-- `LSTART` writes PTRUNC only (R92). -/
def UFlags.withPtrunc (u : UFlags) (p : Bool) : UFlags := { u with ptrunc := p }

/-- `BMATCH` writes MATCH and MIDX and leaves OVF, CARRY, PTRUNC (R103); `midx` is 0 to 16, 5 bits. -/
def UFlags.withMatch (u : UFlags) (m : Bool) (midx : Nat) : UFlags :=
  { u with matched := m, midx := BitVec.ofNat 5 midx }

/-- The word UFLAGS reads as: OVF bit 0, CARRY bit 1, MATCH bit 2, PTRUNC bit 3, bits 7:4 zero, MIDX
bits 12:8, bits 63:13 zero (R12). -/
def UFlags.word (u : UFlags) : Word :=
  0#51 ++ u.midx ++ 0#4 ++ BitVec.ofBool u.ptrunc ++ BitVec.ofBool u.matched ++
    BitVec.ofBool u.carry ++ BitVec.ofBool u.ovf

/-- The word FLAG reads as: CLAIMED in bit 0, bits 63:1 zero (R12, R13). -/
def flagWord (claimed : Bool) : Word := (BitVec.ofBool claimed).setWidth 64

/-- The codes of the protocol state (R20). -/
def PState.code : PState → BitVec 4
  | .config => 0#4
  | .idle => 1#4
  | .armed => 2#4
  | .running => 3#4
  | .synced => 4#4
  | .doneFound => 5#4
  | .doneExhausted => 6#4
  | .fault => 7#4

/-- The fault codes (R171). -/
def FaultCode.code : FaultCode → BitVec 3
  | .none => 0#3
  | .illegalCmd => 1#3
  | .badReg => 2#3
  | .protocol => 3#3
  | .access => 4#3
  | .dispatch => 5#3

end Sys2Proof.Machine
end

