-- ==== Sys2Proof/Machine/Units.lean ====
section
/-! DEFINITION. The pure functions of the block's units: the wide-counter adder `add`
(41_wide_counter.md rule R80), the range-offset unit `laneStart` (42_range_partitioner.md rule R90) and
the comparator `byteMatch` (43_search_kernel.md rule R100), with the byte order of the target and the
result (10_state.md rule R11, 20_memory.md rule R41). -/

namespace Sys2Proof.Machine

/-- R80's adder over halves of `w` bits: low sum, high half with the carry, overflow. The block has
`w = 64`; R4 admits a smaller `w` as a test device. -/
def addHalves {w : Nat} (alo ahi delta : BitVec w) : BitVec w × BitVec w × Bool :=
  (alo + delta, (if carries alo delta then ahi + 1#w else ahi), overflows alo ahi delta)

/-- `add(a, delta)`: the wrapped sum and `overflowed` (R80). -/
def add (a : Wide) (delta : Word) : Wide × Bool :=
  let r := addHalves a.lo a.hi delta
  ({ lo := r.1, hi := r.2.1 }, r.2.2)

/-- `laneStart(base, laneIndex, quotaPerLane)`: the offset is the low 64 bits of the product, and the
overflow flag of the addition is dropped (R90, R93). -/
def laneStart (base : Wide) (laneIndex quotaPerLane : Word) : Wide :=
  (add base (laneIndex * quotaPerLane)).1

/-- `byte_k(w) = w[8k+7:8k]` (00_scope.md section 6). -/
def byteOf (w : Word) (k : Nat) : Byte := w.extractLsb' (8 * k) 8

/-- Byte `k` of the 16 bytes of a register pair: bytes 0 to 7 in the low word, least significant first,
bytes 8 to 15 in the high word (R11, R41). -/
def wideByte (a : Wide) (k : Nat) : Byte := if k < 8 then byteOf a.lo k else byteOf a.hi (k - 8)

/-- R100's loop over the byte indices still to compare: it stops at the first that differs. -/
def matchFrom (c t : Wide) : List Nat → Bool × Nat
  | [] => (true, 16)
  | k :: rest => if wideByte c k ≠ wideByte t k then (false, k) else matchFrom c t rest

/-- `byteMatch(c, t)`: whether all 16 bytes are equal, and the index of the first that differs, or 16
(R100). -/
def byteMatch (c t : Wide) : Bool × Nat := matchFrom c t (List.range 16)

/-- The 16 bytes of a register pair, byte 0 first (R41): the target's bytes for TGT, the result's for
RSLT (R141). -/
def wideBytes (a : Wide) : List Byte := (List.range 16).map (wideByte a)

/-- A 64-bit word from its bytes, least significant first (R11). -/
def wordOfBytes : List Byte → Word
  | [] => 0
  | b :: rest => b.setWidth 64 ||| (wordOfBytes rest <<< 8)

/-- The register pair that holds 16 given bytes, byte 0 first (R11). -/
def wideOfBytes (bs : List Byte) : Wide := { lo := wordOfBytes (bs.take 8), hi := wordOfBytes (bs.drop 8) }

end Sys2Proof.Machine
end

