-- ==== Sys2Proof/Machine/Operands.lean ====
section
/-! DEFINITION. The operand forms. Every operand but WRR's and RDR's register number is implicit
(30_encoding.md rule R70): these are the Wide128 pairs and the products the rules name (00_scope.md
section 6), and the value a flag check observes (20_memory.md rule R49). -/

namespace Sys2Proof.Machine

/-- `TGT = W(r[TGTLO], r[TGTHI])` (R11). -/
def State.tgt (s : State) : Wide := { lo := s.tgtlo, hi := s.tgthi }

/-- `BASE = W(r[BASELO], r[BASEHI])` (R14). -/
def State.base (s : State) : Wide := { lo := s.baselo, hi := s.basehi }

/-- `FND = W(r[FNDLO], r[FNDHI])` (R13). -/
def State.fnd (s : State) : Wide := { lo := s.fndlo, hi := s.fndhi }

/-- `RSLT = W(r[RSLTLO], r[RSLTHI])` (R16). -/
def State.rslt (s : State) : Wide := { lo := s.rsltlo, hi := s.rslthi }

/-- The 16 result bytes, byte 0 first (R16, R141); meaningful in `DoneFound`. -/
def State.resultBytes (s : State) : List Byte := wideBytes s.rslt

/-- The 16 target bytes, byte 0 first (R11). -/
def State.targetBytes (s : State) : List Byte := wideBytes s.tgt

/-- `OPA = W(r[OPALO], r[OPAHI])` (R18). -/
def State.opa (s : State) : Wide := { lo := s.opalo, hi := s.opahi }

/-- `RES = W(r[RESLO], r[RESHI])` (R18). -/
def State.res (s : State) : Wide := { lo := s.reslo, hi := s.reshi }

/-- The batch size `N * Q` as the 64-bit `delta` of `add`; `LAUNCH` admits only products that fit (R134,
R137; log entry 9). -/
def State.batchSize (s : State) : Word := s.lanes * s.quota

/-- The value a flag check observes: `unset` while FLAG.CLAIMED is 0, and while it is 1 either `claimed`
or, when the check's draw is stale, `unset` (R49, R106, R109). -/
def State.observesClaimed (s : State) : Bool := s.flag && !s.env.stale

/-- The three configuration checks of `LAUNCH`, over mathematical integers (R134). -/
def State.launchLegal (s : State) : Bool :=
  decide (s.lanes.toNat ≠ 0 ∧ s.lanes.toNat ≤ Config.maxLanes ∧ s.quota.toNat ≠ 0 ∧
    s.lanes.toNat * s.quota.toNat < 2 ^ 64)

/-- Every lane of the batch is in phase RET: the condition that lifts the hold of `SYNC` (R51, R136). -/
def State.allReturned (s : State) : Bool := s.ctx.all (fun l => l.phase == .ret)

end Sys2Proof.Machine
end

