-- ==== Sys2Proof/Machine/Ops.lean ====
section
/-! DEFINITION. The named operations over registers, lanes and the command port: register access
(10_state.md rules R12, R17, R19, R23), the admission table (R22), the response (30_encoding.md rule
R65), fault entry and refusal (60_exceptions.md rules R175, R176, R188), reset (70_reset_and_hazards.md
rule R200), the lane contexts (10_state.md rule R25, 43_search_kernel.md rules R104, R105). There is no
return from a fault: no command leaves `Fault`, only reset does (R177), so `State.driveRst` stands where
a return from exception would. -/

namespace Sys2Proof.Machine

/-- The access rights of R12's table. -/
def regAccess : Reg → Access
  | .tgtlo | .tgthi | .lanes | .quota => .rwConfig
  | .opalo | .opahi | .opd | .opx | .opq => .rw
  | .baselo | .basehi | .flag | .fndlo | .fndhi | .total | .rsltlo | .rslthi | .status | .fcode | .finfo
  | .reslo | .reshi | .uflags => .ro

/-- The write right of R23: RW always, RW-C only in `Config`, RO never. -/
def mayWrite (r : Reg) (p : PState) : Bool :=
  match regAccess r with
  | .rw => true
  | .rwConfig => p == .config
  | .ro => false

/-- `r[NAME]`: the 64-bit value a register reads as, fields marked "read as 0" zero (R12, R17, R19). -/
def State.readReg (s : State) : Reg → Word
  | .tgtlo => s.tgtlo
  | .tgthi => s.tgthi
  | .baselo => s.baselo
  | .basehi => s.basehi
  | .lanes => s.lanes
  | .quota => s.quota
  | .flag => flagWord s.flag
  | .fndlo => s.fndlo
  | .fndhi => s.fndhi
  | .total => s.total
  | .rsltlo => s.rsltlo
  | .rslthi => s.rslthi
  | .status => s.pstate.code.setWidth 64
  | .fcode => s.fcode.code.setWidth 64
  | .finfo => s.finfo.setWidth 64
  | .opalo => s.opalo
  | .opahi => s.opahi
  | .opd => s.opd
  | .opx => s.opx
  | .opq => s.opq
  | .reslo => s.reslo
  | .reshi => s.reshi
  | .uflags => s.uflags.word

/-- `r[NAME] <- v` for the registers a `WRR` can write; it changes no other register, and a register with
access RO is not written (R12, R23). -/
def State.writeReg (s : State) (r : Reg) (v : Word) : State :=
  match r with
  | .tgtlo => { s with tgtlo := v }
  | .tgthi => { s with tgthi := v }
  | .lanes => { s with lanes := v }
  | .quota => { s with quota := v }
  | .opalo => { s with opalo := v }
  | .opahi => { s with opahi := v }
  | .opd => { s with opd := v }
  | .opx => { s with opx := v }
  | .opq => { s with opq := v }
  | .baselo | .basehi | .flag | .fndlo | .fndhi | .total | .rsltlo | .rslthi | .status | .fcode | .finfo
  | .reslo | .reshi | .uflags => s

/-- `cmd_ready`: 0 while `rst` is 1 (R200) and while a `SYNC` is held (R60, R136); every other command
responds in the step that accepts it. -/
def State.cmdReady (s : State) : Bool := !s.rst && !s.syncPending

/-- `cmd_valid`: the host offers a command (R60). -/
def State.cmdValid (s : State) : Bool := !s.env.offers.isEmpty

/-- `respond(err, rdata)`: the response of the command being executed is presented, and nothing is held
any more (R60, R65). -/
def State.respond (s : State) (err : Bool) (rdata : Word) : State :=
  { s with rsp := { valid := true, err := err, rdata := rdata }, syncPending := false }

/-- The refusal of R176: `err = 1`, `rdata = 0`, and no state change. -/
def State.refuse (s : State) : State := s.respond true 0

/-- R188: a fault raised in `Running` abandons the batch. The lane contexts cease to exist, and FLAG,
FNDLO, FNDHI become unspecified (free values; log entry 3). -/
def State.abandonBatch (s : State) : State :=
  if s.pstate = .running then
    { s with
      ctx := []
      flag := Config.abandonedFlag s.draws
      fndlo := Config.abandonedFndlo s.draws
      fndhi := Config.abandonedFndhi s.draws
      draws := s.draws + 1 }
  else s

/-- Fault entry, `raise Fault(code)` of R175: FCODE takes the code, FINFO the faulting command's word,
`pstate` becomes `Fault`, lane contexts are abandoned, and the response is `err = 1`, `rdata = 0`. -/
def State.raise (s : State) (code : FaultCode) : State :=
  { s.abandonBatch with fcode := code, finfo := s.cmd.word, pstate := .fault }.respond true 0

/-- The admission table of R22. -/
def admission : CommandRow → PState → Admission
  | .nop, _ => .ok
  | .rdr, .running => .protocol
  | .rdr, _ => .ok
  | .wrr, .running => .protocol
  | .wrr, .fault => .refused
  | .wrr, _ => .ok
  | .unitAccess, .running => .protocol
  | .unitAccess, .fault => .refused
  | .unitAccess, _ => .ok
  | .breset, .config => .ok
  | .breset, .idle => .ok
  | .breset, .fault => .refused
  | .breset, _ => .protocol
  | .launch, .armed => .ok
  | .launch, .fault => .refused
  | .launch, _ => .protocol
  | .sync, .running => .held
  | .sync, .fault => .refused
  | .sync, _ => .protocol
  | .next, .synced => .ok
  | .next, .fault => .refused
  | .next, _ => .protocol

/-- A command's effect under the admission table: `ok` and `held` run it, `P` raises `Fault(PROTOCOL)`,
`X` refuses it (R22, R173, R176). -/
def State.whenAdmitted (s : State) (row : CommandRow) (effect : State) : State :=
  match admission row s.pstate with
  | .ok => effect
  | .held => effect
  | .protocol => s.raise .protocol
  | .refused => s.refuse

/-- A word that decodes to no command: `Fault(ILLEGAL_CMD)`, or refused in `Fault` (R66, R71, R173,
R176). -/
def State.illegalCommand (s : State) : State :=
  if s.pstate = .fault then s.refuse else s.raise .illegalCmd

/-- The registers that still read defined values in `Fault` (R176). -/
def readsInFault : Reg → Bool
  | .status | .fcode | .finfo => true
  | _ => false

/-- A read of a register whose value is unspecified: the next draw, a fresh one at each read (R176, U16;
log entry 2). -/
def State.respondDraw (s : State) : State :=
  { s with draws := s.draws + 1 }.respond false (Config.faultRead s.draws)

/-- A lane context at creation: `index = i`, phase CHK0; `cand`, `rem`, `won` hold free values (R105,
U18; log entry 4). -/
def freshLane (draw i : Nat) : Lane :=
  { index := BitVec.ofNat 64 i
    phase := .chk0
    cand := { lo := (Config.unsetCand draw i).1, hi := (Config.unsetCand draw i).2 }
    rem := Config.unsetRem draw i
    won := Config.unsetWon draw i }

/-- `create lane[0 .. N-1]`, all in the same step (R105). -/
def State.createLanes (s : State) : State :=
  { s with ctx := (List.range s.lanes.toNat).map (freshLane s.draws), draws := s.draws + 1 }

/-- The lane whose turn it is; outside `Running` there are no lane contexts (R25). -/
def State.turnLane (s : State) : Option Lane :=
  if s.pstate = .running then s.ctx[s.env.lane]? else none

/-- The context of the lane whose turn it is becomes `l`. -/
def State.setLane (s : State) (l : Lane) : State := { s with ctx := s.ctx.set s.env.lane l }

/-- One micro-operation of the lane whose turn it is. It is enabled exactly when `pstate` is `Running` and
the lane stands in the phase of that name (R68, R104); where it is not enabled the rules give no step. -/
def State.laneStep (s : State) (p : Phase) (effect : Lane → State) : Host.Outcome State Fault Refusal :=
  match s.turnLane with
  | none => .fault .noLaneContext
  | some l => if l.phase = p then .next (effect l) else .fault .notInPhase

/-- The block in the reset state of R201, with the reset input at a given level. The environment's side and
the number of draws are not the block's, so reset does not touch them. -/
def State.resetBlock (s : State) (level : Bool) : State :=
  { State.reset with rst := level, env := s.env, draws := s.draws }

/-- The reset input changes (R200): while it is 1 the block is held in the reset state, and when it returns
to 0 the block is in the reset state. Driving 0 onto an input that is 0 is no event. -/
def State.driveRst (s : State) (level : Bool) : State :=
  if level || s.rst then s.resetBlock level else s

end Sys2Proof.Machine
end

