-- ==== Sys2Proof/Machine/Batch.lean ====
section
/-! DEFINITION. The meanings of the batch commands `BRESET`, `LAUNCH`, `SYNC` and `NEXT`
(44_host_orchestrator.md rules R133, R134, R136, R137). -/

namespace Sys2Proof.Machine

/-- `pstate <- p` (R21). -/
def State.withPState (s : State) (p : PState) : State := { s with pstate := p }

/-- BatchState zeroed: FLAG, FNDLO, FNDHI (R133). -/
def State.clearBatch (s : State) : State := { s with flag := false, fndlo := 0, fndhi := 0 }

/-- `BRESET` (R133): BatchState zeroed, `pstate` Armed. -/
def execBreset (s : State) : Host.Outcome State Fault Refusal :=
  .next <| s.whenAdmitted .breset <| (s.clearBatch.withPState .armed).respond false 0

/-- `LAUNCH` (R134): with a legal configuration and no dispatch failure from the environment, the lanes are
created and `pstate` becomes Running; otherwise `Fault(DISPATCH)`. -/
def execLaunch (s : State) : Host.Outcome State Fault Refusal :=
  .next <| s.whenAdmitted .launch <|
    if s.launchLegal && !s.env.dispatchFails then (s.createLanes.withPState .running).respond false 0
    else s.raise .dispatch

/-- The hold of `SYNC` (R136): accepted, no response yet, `cmd_ready` 0. -/
def State.holdSync (s : State) : State := { s with syncPending := true, rsp := Response.none }

/-- The lane contexts are discarded (R25, R136). -/
def State.discardLanes (s : State) : State := { s with ctx := [] }

/-- `SYNC` (R136): when every lane is in RET the contexts are discarded and `pstate` becomes Synced; until
then it is held, and its next turn tries again. -/
def execSync (s : State) : Host.Outcome State Fault Refusal :=
  .next <| s.whenAdmitted .sync <|
    if s.allReturned then (s.discardLanes.withPState .synced).respond false 0 else s.holdSync

/-- `RSLT <- FND` (R137, step 3). -/
def State.takeResult (s : State) : State := { s with rsltlo := s.fndlo, rslthi := s.fndhi }

/-- `TOTAL` accumulates the batch size modulo 2^64 and `BASE` advances by it (R137, step 4). -/
def State.advance (s : State) : State :=
  { s with
    total := s.total + s.batchSize
    baselo := (add s.base s.batchSize).1.lo
    basehi := (add s.base s.batchSize).1.hi }

/-- `NEXT` (R137): DoneFound with the result latched, or the advance, to DoneExhausted when the addition
overflows and to Idle when it does not. -/
def execNext (s : State) : Host.Outcome State Fault Refusal :=
  .next <| s.whenAdmitted .next <|
    if s.flag then (s.takeResult.withPState .doneFound).respond false 0
    else
      (s.advance.withPState
        (if (add s.base s.batchSize).2 then .doneExhausted else .idle)).respond false 0

end Sys2Proof.Machine
end

