-- ==== Sys2Proof/Machine/HostAccess.lean ====
section
/-! DEFINITION. The meanings of `NOP`, `WRR` and `RDR` (44_host_orchestrator.md rules R130 to R132). -/

namespace Sys2Proof.Machine

/-- `NOP` (R130): the response, and no state change; admitted in every protocol state. -/
def execNop (s : State) : Host.Outcome State Fault Refusal :=
  .next (s.whenAdmitted .nop (s.respond false 0))

/-- `WRR reg, #v` (R131): the checks in R173's order, then `r[REG] <- cmd_wdata`. -/
def execWrr (reg : RegNum) (s : State) : Host.Outcome State Fault Refusal :=
  .next <|
    if s.pstate = .fault then s.refuse
    else match Reg.ofNum reg with
      | none => s.raise .badReg
      | some r =>
        s.whenAdmitted .wrr
          (if mayWrite r s.pstate then (s.writeReg r s.cmd.wdata).respond false 0 else s.raise .access)

/-- `RDR reg` (R132): the checks in R173's order, then the register's value on `rsp_rdata`; in `Fault` as
R176 says. -/
def execRdr (reg : RegNum) (s : State) : Host.Outcome State Fault Refusal :=
  .next <|
    match Reg.ofNum reg with
    | none => if s.pstate = .fault then s.refuse else s.raise .badReg
    | some r =>
      if s.pstate = .fault && !readsInFault r then s.respondDraw
      else s.whenAdmitted .rdr (s.respond false (s.readReg r))

end Sys2Proof.Machine
end

