-- ==== Sys2Proof/Machine/Kernel.lean ====
section
/-! DEFINITION. The meanings of the nine lane micro-operations (43_search_kernel.md rules R106 to R114),
each one atomic step of the lane whose turn it is. -/

namespace Sys2Proof.Machine

/-- `L.CHK0` (R106): the entry check, to RET on an observed claim, else to START. -/
def execLChk0 (s : State) : Host.Outcome State Fault Refusal :=
  s.laneStep .chk0 fun l => s.setLane { l with phase := if s.observesClaimed then .ret else .start }

/-- `L.START` (R107): the lane's first candidate and its quota. -/
def execLStart (s : State) : Host.Outcome State Fault Refusal :=
  s.laneStep .start fun l =>
    s.setLane { l with cand := laneStart s.base l.index s.quota, rem := s.quota, phase := .loop }

/-- `L.LOOP` (R108): to RET when the quota is used up, else to CHK. -/
def execLLoop (s : State) : Host.Outcome State Fault Refusal :=
  s.laneStep .loop fun l => s.setLane { l with phase := if l.rem = 0 then .ret else .chk }

/-- `L.CHK` (R109): the per-iteration check, to RET on an observed claim, else to CMP. -/
def execLChk (s : State) : Host.Outcome State Fault Refusal :=
  s.laneStep .chk fun l => s.setLane { l with phase := if s.observesClaimed then .ret else .cmp }

/-- `L.CMP` (R110): to CAS when the candidate matches the target, else to INC. -/
def execLCmp (s : State) : Host.Outcome State Fault Refusal :=
  s.laneStep .cmp fun l =>
    s.setLane { l with phase := if (byteMatch l.cand s.tgt).1 then .cas else .inc }

/-- FLAG.CLAIMED set to 1, by a winning claim (R111). -/
def State.claim (s : State) : State := { s with flag := true }

/-- `L.CAS` (R111, R47): one atomic compare-and-swap on FLAG.CLAIMED, exact and never stale; the winner goes
on to WRLO, the loser to RET. -/
def execLCas (s : State) : Host.Outcome State Fault Refusal :=
  s.laneStep .cas fun l =>
    if s.flag then s.setLane { l with won := false, phase := .ret }
    else s.claim.setLane { l with won := true, phase := .wrlo }

/-- `FNDLO <- v` (R112). -/
def State.withFndlo (s : State) (v : Word) : State := { s with fndlo := v }

/-- `FNDHI <- v` (R113). -/
def State.withFndhi (s : State) (v : Word) : State := { s with fndhi := v }

/-- `L.WRLO` (R112): the low half of the found value, to WRHI. -/
def execLWrlo (s : State) : Host.Outcome State Fault Refusal :=
  s.laneStep .wrlo fun l => (s.withFndlo l.cand.lo).setLane { l with phase := .wrhi }

/-- `L.WRHI` (R113): the high half of the found value, to RET. -/
def execLWrhi (s : State) : Host.Outcome State Fault Refusal :=
  s.laneStep .wrhi fun l => (s.withFndhi l.cand.hi).setLane { l with phase := .ret }

/-- `L.INC` (R114): the next candidate, its overflow dropped, one iteration less, to LOOP. -/
def execLInc (s : State) : Host.Outcome State Fault Refusal :=
  s.laneStep .inc fun l =>
    s.setLane { l with cand := (add l.cand 1).1, rem := l.rem - 1, phase := .loop }

end Sys2Proof.Machine
end

