-- ==== Sys2Proof/Machine/UnitAccess.lean ====
section
/-! DEFINITION. The meanings of the unit-access commands `WADD` (41_wide_counter.md rule R82), `LSTART`
(42_range_partitioner.md rule R92) and `BMATCH` (43_search_kernel.md rule R103). -/

namespace Sys2Proof.Machine

/-- `RES <- v` (R18). -/
def State.withRes (s : State) (v : Wide) : State := { s with reslo := v.lo, reshi := v.hi }

/-- `UFLAGS <- u` (R18). -/
def State.withUFlags (s : State) (u : UFlags) : State := { s with uflags := u }

/-- `WADD` (R82): `RES = add(OPA, OPD)`, UFLAGS.OVF and UFLAGS.CARRY. -/
def execWadd (s : State) : Host.Outcome State Fault Refusal :=
  .next <| s.whenAdmitted .unitAccess <|
    ((s.withRes (add s.opa s.opd).1).withUFlags
      (s.uflags.withAdd (add s.opa s.opd).2 (carries s.opalo s.opd))).respond false 0

/-- `LSTART` (R92): `RES = laneStart(OPA, OPX, OPQ)`, UFLAGS.PTRUNC. -/
def execLstart (s : State) : Host.Outcome State Fault Refusal :=
  .next <| s.whenAdmitted .unitAccess <|
    ((s.withRes (laneStart s.opa s.opx s.opq)).withUFlags
      (s.uflags.withPtrunc (productTruncated s.opx s.opq))).respond false 0

/-- `BMATCH` (R103): UFLAGS.MATCH and UFLAGS.MIDX from `byteMatch(OPA, TGT)`. -/
def execBmatch (s : State) : Host.Outcome State Fault Refusal :=
  .next <| s.whenAdmitted .unitAccess <|
    (s.withUFlags
      (s.uflags.withMatch (byteMatch s.opa s.tgt).1 (byteMatch s.opa s.tgt).2)).respond false 0

end Sys2Proof.Machine
end

