-- ==== Sys2Proof/Machine/Dispatch.lean ====
section
/-! DEFINITION. One arm for each instruction: the host commands of 30_encoding.md rule R62, then the lane
micro-operations of rule R68. -/

namespace Sys2Proof.Machine

def exec (i : Instr) (s : State) : Host.Outcome State Fault Refusal :=
  match i with
  | .nop => Sys2Proof.Machine.execNop s
  | .wrr reg => Sys2Proof.Machine.execWrr reg s
  | .rdr reg => Sys2Proof.Machine.execRdr reg s
  | .wadd => Sys2Proof.Machine.execWadd s
  | .lstart => Sys2Proof.Machine.execLstart s
  | .bmatch => Sys2Proof.Machine.execBmatch s
  | .breset => Sys2Proof.Machine.execBreset s
  | .launch => Sys2Proof.Machine.execLaunch s
  | .sync => Sys2Proof.Machine.execSync s
  | .next => Sys2Proof.Machine.execNext s
  | .lChk0 => Sys2Proof.Machine.execLChk0 s
  | .lStart => Sys2Proof.Machine.execLStart s
  | .lLoop => Sys2Proof.Machine.execLLoop s
  | .lChk => Sys2Proof.Machine.execLChk s
  | .lCmp => Sys2Proof.Machine.execLCmp s
  | .lCas => Sys2Proof.Machine.execLCas s
  | .lWrlo => Sys2Proof.Machine.execLWrlo s
  | .lWrhi => Sys2Proof.Machine.execLWrhi s
  | .lInc => Sys2Proof.Machine.execLInc s

end Sys2Proof.Machine
end

