-- ==== Sys2Proof/Machine/Fetch.lean ====
section
/-! DEFINITION. Which instruction a turn runs. The block fetches nothing from a memory (20_memory.md rule
R53): a host command comes from the command port (30_encoding.md rule R60), a micro-operation from the
phase of the lane whose turn it is (rule R68), and which agent moves is the schedule's choice
(00_scope.md rule R5). -/

namespace Sys2Proof.Machine

/-- What a turn comes to: an instruction to run in a state, or a state reached with none to run. -/
inductive Fetched where
  | run (i : Instr) (s : State)
  | settled (s : State)
  deriving DecidableEq, Repr

/-- The port accepts the command at the head of the host's offers (R60): it becomes the command being
executed, and the previous command's response is presented no longer (log entry 8). -/
def State.accept (s : State) (c : HostCommand) (rest : List HostCommand) : State :=
  { s with cmd := c, rsp := Response.none, env := { s.env with offers := rest } }

/-- The command port's turn. Under reset nothing is accepted (R200). A held `SYNC` is tried again, and
nothing else is accepted (R136). Otherwise the offered command, if any, is accepted and decoded (R60,
R71); a word that is no command takes its fault here. -/
def fetchHost (s : State) : Fetched :=
  if s.rst then .settled s
  else if s.syncPending then .run .sync s
  else match s.env.offers with
    | [] => .settled s
    | c :: rest =>
      match decodeCommand c.word with
      | .ok i => .run i (s.accept c rest)
      | .error _ => .settled (s.accept c rest).illegalCommand

/-- A lane's turn: the micro-operation of its phase (R68). Under reset (R200), outside `Running` (R25), at
an index with no lane, and in RET (R115) no step is enabled, and the turn passes. -/
def fetchLane (s : State) : Fetched :=
  if s.rst then .settled s
  else match s.turnLane with
    | none => .settled s
    | some l =>
      match decodePhase l.phase.code with
      | .ok i => .run i s
      | .error _ => .settled s

/-- The environment's side becomes `e`; nothing of the block changes. -/
def State.withEnv (s : State) (e : Env) : State := { s with env := e }

/-- The next turn of the schedule is taken from it, with its draws (R5, R29; log entries 5, 6, 7). When the
schedule holds no turn, no agent moves. -/
def fetch (s : State) : Fetched :=
  match s.env.turns with
  | [] => .settled s
  | .host f :: rest => fetchHost (s.withEnv { s.env with turns := rest, dispatchFails := f })
  | .lane i b :: rest => fetchLane (s.withEnv { s.env with turns := rest, lane := i, stale := b })
  | .rst level :: rest => .settled ((s.withEnv { s.env with turns := rest }).driveRst level)

/-- The state in which the next turn accepts a given command on the port (log entry 10). -/
def State.offerNext (s : State) (c : HostCommand) : State :=
  { s with
    rst := false
    syncPending := false
    env := { s.env with offers := c :: s.env.offers, turns := .host false :: s.env.turns } }

/-- The state in which the next turn is that of a single lane 0 in a given phase (log entry 10). -/
def State.placeLane (s : State) (p : Phase) : State :=
  { s with
    rst := false
    pstate := .running
    ctx := [{ index := 0, phase := p, cand := { lo := 0, hi := 0 }, rem := 0, won := false }]
    env := { s.env with turns := .lane 0 false :: s.env.turns } }

/-- The state in which the next step runs the instruction of a code (log entry 10); a code of no phase
changes nothing. -/
def State.placeCode (s : State) : Code → State
  | .command w => s.offerNext { word := w, wdata := 0 }
  | .phase c =>
    match Phase.ofCode c with
    | some p => s.placeLane p
    | none => s

end Sys2Proof.Machine
end

