-- ==== Sys2Proof/Machine/Step.lean ====
section
/-! DEFINITION. One step of the block (00_scope.md rule R6): the next turn's host command executed whole,
one micro-operation of one lane, or reset. -/

namespace Sys2Proof.Machine

/-- One step: the next turn, and the instruction it runs, if any. -/
def step (s : State) : Host.Outcome State Fault Refusal :=
  match fetch s with
  | .run i t => exec i t
  | .settled t => .next t

/-- `s` with the instruction of an opcode-table row placed where the next step takes it from. -/
def State.withFetchWord (s : State) (nbits w : Nat) : State :=
  match tableCode nbits w with
  | some c => s.placeCode c
  | none => s

end Sys2Proof.Machine
end

