-- ==== Sys2Proof/Safety.lean ====
section
/-! DEFINITION. What a safe run of the block is, in the terms the statements use: where a lane stands in its
range, the invariant that every step keeps, the protocol's transitions and the bound on a lane's steps. -/

namespace Sys2Proof.Safety

open Sys2Proof.Machine

/-- The candidate with number `k` of lane `i` of a batch, as a 128-bit number (R90, R91): the batch's base
plus `i*Q + k`, modulo 2^128. -/
def candidate (s : State) (i k : Nat) : Nat := (s.base.val + i * s.quota.toNat + k) % 2 ^ 128

/-- The target is one of the `N * Q` candidates of the batch (R91, R117). -/
def InBatch (s : State) : Prop :=
  ∃ k, k < s.lanes.toNat * s.quota.toNat ∧ (s.base.val + k) % 2 ^ 128 = s.tgt.val

/-- How many of its candidates a lane has compared and found different, while the flag is unset (R104). -/
def rejected (quota : Nat) (l : Lane) : Nat :=
  match l.phase with
  | .chk0 | .start => 0
  | .loop | .chk | .cmp | .cas | .wrlo | .wrhi => quota - l.rem.toNat
  | .inc => quota - l.rem.toNat + 1
  | .ret => quota

/-- The phases in which a lane holds a candidate (R107 to R114). -/
def holdsCandidate (p : Phase) : Bool := p != .chk0 && p != .start && p != .ret

/-- The phases in which a lane has won its claim and has still to write (R50). -/
def isWriter (p : Phase) : Bool := p == .wrlo || p == .wrhi

/-- What holds of lane `i` of a running batch (R105 to R114). -/
structure LaneOk (s : State) (i : Nat) (l : Lane) : Prop where
  index : l.index.toNat = i
  quota : holdsCandidate l.phase = true → l.rem.toNat ≤ s.quota.toNat
  cand : holdsCandidate l.phase = true → l.cand.val = candidate s i (s.quota.toNat - l.rem.toNat)
  rem : holdsCandidate l.phase = true → l.phase ≠ .loop → 1 ≤ l.rem.toNat
  found : l.phase = .cas ∨ isWriter l.phase = true → l.cand = s.tgt
  claimed : isWriter l.phase = true → s.flag = true
  low : l.phase = .wrhi → s.fndlo = s.tgtlo
  missed : s.flag = false → ∀ k, k < rejected s.quota.toNat l → candidate s i k ≠ s.tgt.val

/-- At most one lane of the batch has won its claim and has still to write (R55). -/
def OneWriter (s : State) : Prop :=
  ∀ (i j : Nat) (l m : Lane), s.ctx[i]? = some l → s.ctx[j]? = some m →
    isWriter l.phase = true → isWriter m.phase = true → i = j

/-- What holds while a batch runs. -/
structure BatchOk (s : State) : Prop where
  legal : s.launchLegal = true
  length : s.ctx.length = s.lanes.toNat
  lane : ∀ (i : Nat) (l : Lane), s.ctx[i]? = some l → LaneOk s i l
  writer : OneWriter s
  written : s.flag = true → (∀ (i : Nat) (l : Lane), s.ctx[i]? = some l → isWriter l.phase = false) → s.fnd = s.tgt
  inBatch : s.flag = true → InBatch s

/-- What holds in each protocol state (R13, R14, R16, R20). -/
def PhaseOk (s : State) : Prop :=
  match s.pstate with
  | .config => s.baselo = 0 ∧ s.basehi = 0 ∧ s.flag = false ∧ s.rsltlo = 0 ∧ s.rslthi = 0
  | .idle | .armed => s.base.val ≤ s.tgt.val ∧ s.flag = false ∧ s.rsltlo = 0 ∧ s.rslthi = 0
  | .running => s.base.val ≤ s.tgt.val ∧ BatchOk s ∧ s.rsltlo = 0 ∧ s.rslthi = 0
  | .synced =>
    s.base.val ≤ s.tgt.val ∧ s.launchLegal = true ∧ (s.flag = true → s.fnd = s.tgt) ∧
      (s.flag = true ↔ InBatch s) ∧ s.rsltlo = 0 ∧ s.rslthi = 0
  | .doneFound => s.flag = true ∧ s.fnd = s.tgt ∧ s.rslt = s.tgt ∧ InBatch s
  | .doneExhausted => False
  | .fault => True

/-- The invariant of the block: it holds at reset, and every step keeps it. -/
structure BlockInv (s : State) : Prop where
  held : s.syncPending = true → s.pstate = .running
  noLanes : s.pstate ≠ .running → s.ctx = []
  faulted : s.pstate = .fault ↔ s.fcode ≠ .none
  noInfo : s.fcode = .none → s.finfo = 0
  total : s.total = s.baselo
  unfound : s.pstate ≠ .fault → s.flag = false → s.fndlo = 0 ∧ s.fndhi = 0
  phase : PhaseOk s
  underReset : s.rst = true → s.pstate = .config ∧ s.syncPending = false ∧ s.rsp = Response.none

/-- The response of a command that executes without fault (R65). -/
def okResponse (rdata : Word) : Response := { valid := true, err := false, rdata := rdata }

/-- The response of a command that faults or is refused (R65). -/
def errResponse : Response := { valid := true, err := true, rdata := 0 }

/-- The registers that fault entry may change: FCODE, FINFO and STATUS, and FLAG, FNDLO, FNDHI when it
abandons a batch (R175, R188). -/
def faultWrites (running : Bool) (r : Reg) : Bool :=
  match r with
  | .status | .fcode | .finfo => true
  | .flag | .fndlo | .fndhi => running
  | _ => false

/-- `t` is `s` after the fault entry of R175 with a given code: FCODE, FINFO and `pstate` are written, no
other register is (but FLAG, FNDLO and FNDHI when a batch is abandoned, R188), no lane context is left (log entry 3), the
response is `err = 1`, `rdata = 0`, and the environment's side and the port's inputs are untouched. -/
structure EntersFault (s t : State) (code : FaultCode) : Prop where
  pstate : t.pstate = .fault
  fcode : t.fcode = code
  finfo : t.finfo = s.cmd.word
  others : ∀ r, faultWrites (s.pstate == .running) r = false → t.readReg r = s.readReg r
  lanes : (s.pstate = .running → t.ctx = []) ∧ (s.pstate ≠ .running → t.ctx = s.ctx)
  port : t.rsp = errResponse ∧ t.syncPending = false ∧ t.cmd = s.cmd ∧ t.rst = s.rst ∧ t.env = s.env

/-- `t` is `s` after a refusal: `err = 1`, `rdata = 0`, and nothing else changes (R176). -/
def Refused (s t : State) : Prop := t = { s with rsp := errResponse, syncPending := false }

/-- A host command, as opposed to a lane micro-operation (R62, R68). -/
def isCommand (i : Instr) : Bool :=
  match encode i with
  | .command _ => true
  | .phase _ => false

/-- The condition on the shared flag that a claim keeps on any state with several lanes in CAS (R47, R55): a
lane that has still to write has claimed the flag, and there is at most one. -/
def ClaimOk (s : State) : Prop :=
  (∀ (i : Nat) (l : Lane), s.ctx[i]? = some l → isWriter l.phase = true → s.flag = true) ∧ OneWriter s

/-- The entries `P` of R22's table, for the commands that access no register by number. -/
def outOfOrder (i : Instr) (p : PState) : Bool :=
  match i with
  | .wadd | .lstart | .bmatch => p == .running
  | .breset => p != .config && p != .idle && p != .fault
  | .launch => p != .armed && p != .fault
  | .sync => p != .running && p != .fault
  | .next => p != .synced && p != .fault
  | _ => false

/-- The terminal protocol states, which only reset leaves (R21, R216). -/
def terminal (p : PState) : Bool := p == .doneFound || p == .doneExhausted || p == .fault

/-- The transitions of R21's table other than reset, a state that stays as it is among them. -/
def mayFollow (p q : PState) : Bool :=
  p == q || (p != .fault && q == .fault) ||
    match p, q with
    | .config, .armed => true
    | .idle, .armed => true
    | .armed, .running => true
    | .running, .synced => true
    | .synced, .doneFound => true
    | .synced, .idle => true
    | .synced, .doneExhausted => true
    | _, _ => false

/-- The transitions of R21's table with the event of each, for a command or micro-operation `i` executed from
`p` to a different state `q`. -/
def transition (i : Instr) (p q : PState) : Bool :=
  match i, p, q with
  | .nop, _, _ => false
  | .breset, .config, .armed => true
  | .breset, .idle, .armed => true
  | .launch, .armed, .running => true
  | .launch, .armed, .fault => true
  | .sync, .running, .synced => true
  | .next, .synced, .doneFound => true
  | .next, .synced, .idle => true
  | .next, .synced, .doneExhausted => true
  | _, .fault, _ => false
  | i, _, .fault => isCommand i
  | _, _, _ => false

/-- The turn a step takes drives the reset input (R200). -/
def nextTurnIsReset (s : State) : Bool :=
  match s.env.turns with
  | .rst _ :: _ => true
  | _ => false

/-- A bound on the steps a lane has still to take (R118): `4*Q + 4` at creation, and 0 in RET. -/
def stepsLeft (quota : Nat) (l : Lane) : Nat :=
  match l.phase with
  | .chk0 => 4 * quota + 4
  | .start => 4 * quota + 3
  | .loop => 4 * l.rem.toNat + 2
  | .chk => 4 * l.rem.toNat + 1
  | .cmp => 4 * l.rem.toNat
  | .cas => 3
  | .wrlo => 2
  | .wrhi => 1
  | .inc => 4 * l.rem.toNat - 1
  | .ret => 0

/-- How many turns of a schedule are lane `i`'s. -/
def turnsOf (i : Nat) (ts : List Turn) : Nat :=
  ts.countP (fun t => match t with | .lane j _ => j == i | _ => false)

/-- Every turn of a schedule is a lane's. -/
def onlyLanes (ts : List Turn) : Bool := ts.all (fun t => match t with | .lane _ _ => true | _ => false)

/-- `k` steps, one after the other. -/
def run : Nat → State → Host.Outcome State Fault Refusal
  | 0, s => .next s
  | k + 1, s =>
    match step s with
    | .next t => run k t
    | .fault r => .fault r
    | .refused r => .refused r

/-- No turn of a schedule drives the reset input. -/
def noReset (ts : List Turn) : Bool := ts.all (fun t => match t with | .rst _ => false | _ => true)

end Sys2Proof.Safety
end

