-- ==== Sys2Proof/Certificates/Slice0/Obligations.lean ====
section
/-! DEFINITION. The statements for the provers, each a numbered obligation of OBLIGATIONS.json. They stand in
the order: the units' arithmetic, encoding and registers, the host commands, the lane micro-operations,
faults, the step and reset, and the properties of the whole block. In an equation
`exec i s = .next (…)` the right side is the whole next state, so it is the frame as well: what it does not
change is unchanged. -/

open Sys2Proof Sys2Proof.Machine Sys2Proof.Safety

/-! ## The units -/

/-- R81: the six laws of `add`. -/
def Obligations.AddLaws : Prop :=
  ∀ (a : Wide) (delta : Word),
    (add a delta).1.val = (a.val + delta.toNat) % 2 ^ 128 ∧
    ((add a delta).2 = true ↔ 2 ^ 128 ≤ a.val + delta.toNat) ∧
    ((carries a.lo delta = true ↔ (add a delta).1.lo.toNat < a.lo.toNat) ∧
      (carries a.lo delta = true → (add a delta).1.lo.toNat < delta.toNat)) ∧
    add a 0 = (a, false) ∧
    ((add a delta).2 = true → (add a delta).1.hi = 0 ∧ carries a.lo delta = true) ∧
    delta.toNat ≤ 2 ^ 64 - 1 ∧ 2 ^ 64 - 1 < 2 ^ 128 ∧ a.val + delta.toNat < 2 * 2 ^ 128

/-- R80 as written: low sum, carry into the high half, overflow. -/
def Obligations.AddHalvesFollowTheCarry : Prop :=
  ∀ (alo ahi delta : Word),
    (add { lo := alo, hi := ahi } delta).1.lo.toNat = (alo.toNat + delta.toNat) % 2 ^ 64 ∧
    (add { lo := alo, hi := ahi } delta).1.hi.toNat =
      (ahi.toNat + (if 2 ^ 64 ≤ alo.toNat + delta.toNat then 1 else 0)) % 2 ^ 64 ∧
    ((add { lo := alo, hi := ahi } delta).2 = true ↔
      2 ^ 64 ≤ alo.toNat + delta.toNat ∧ ahi.toNat = 2 ^ 64 - 1)

/-- R4: the adder's rule at any width of its halves, the form in which the exhaustion property is tested. -/
def Obligations.ReducedWidthAdderWrapsAtTheTop : Prop :=
  ∀ (w : Nat) (alo ahi delta : BitVec w), 0 < w →
    (addHalves alo ahi delta).2.1.toNat * 2 ^ w + (addHalves alo ahi delta).1.toNat =
      (ahi.toNat * 2 ^ w + alo.toNat + delta.toNat) % 2 ^ (2 * w) ∧
    ((addHalves alo ahi delta).2.2 = true ↔ 2 ^ (2 * w) ≤ ahi.toNat * 2 ^ w + alo.toNat + delta.toNat)

/-- R90: the offset is the low 64 bits of the product, and the sum wraps silently; when the product fits, it is
the whole product. -/
def Obligations.LaneStartAddsTheOffset : Prop :=
  ∀ (base : Wide) (i q : Word),
    (laneStart base i q).val = (base.val + i.toNat * q.toNat % 2 ^ 64) % 2 ^ 128 ∧
    (i.toNat * q.toNat < 2 ^ 64 → (laneStart base i q).val = (base.val + i.toNat * q.toNat) % 2 ^ 128)

/-- R91: the partition invariant. Lane `i` scans the values `laneStart(B, i, Q) + j`, `j < Q`, modulo 2^128. -/
def Obligations.LaneRangesPartitionTheBatch : Prop :=
  ∀ (b : Wide) (n q : Nat), 1 ≤ n → 1 ≤ q → n * q ≤ 2 ^ 64 - 1 →
    (∀ i, i < n → (laneStart b (BitVec.ofNat 64 i) (BitVec.ofNat 64 q)).val = (b.val + i * q) % 2 ^ 128) ∧
    (∀ i j x y, i < n → j < n → x < q → y < q → i ≠ j →
      ((laneStart b (BitVec.ofNat 64 i) (BitVec.ofNat 64 q)).val + x) % 2 ^ 128 ≠
        ((laneStart b (BitVec.ofNat 64 j) (BitVec.ofNat 64 q)).val + y) % 2 ^ 128) ∧
    (∀ v, (∃ i x, i < n ∧ x < q ∧
        v = ((laneStart b (BitVec.ofNat 64 i) (BitVec.ofNat 64 q)).val + x) % 2 ^ 128) ↔
      ∃ k, k < n * q ∧ v = (b.val + k) % 2 ^ 128) ∧
    (∀ k m, k < n * q → m < n * q → (b.val + k) % 2 ^ 128 = (b.val + m) % 2 ^ 128 → k = m) ∧
    (∀ i, i + 1 < n →
      (laneStart b (BitVec.ofNat 64 (i + 1)) (BitVec.ofNat 64 q)).val =
        (((laneStart b (BitVec.ofNat 64 i) (BitVec.ofNat 64 q)).val + (q - 1)) % 2 ^ 128 + 1) % 2 ^ 128)

/-- R100: the comparator stops at the first differing byte, and answers 16 when there is none. -/
def Obligations.ByteMatchFindsTheFirstDifference : Prop :=
  ∀ (c t : Wide),
    (byteMatch c t = (true, 16) ∧ ∀ k, k < 16 → wideByte c k = wideByte t k) ∨
    ∃ k, k < 16 ∧ byteMatch c t = (false, k) ∧ wideByte c k ≠ wideByte t k ∧
      ∀ j, j < k → wideByte c j = wideByte t j

/-- R101: the verdict is equality of the halves, of the 128-bit numbers, and of the sixteen bytes whatever the order
they are compared in. -/
def Obligations.ByteMatchIsEquality : Prop :=
  ∀ (c t : Wide), ((byteMatch c t).1 = true ↔ c.lo = t.lo ∧ c.hi = t.hi) ∧
    ((byteMatch c t).1 = true ↔ c.val = t.val) ∧
    ((byteMatch c t).1 = true ↔ ∀ k, k < 16 → wideByte c k = wideByte t k)

/-- R11, R41: sixteen bytes in a register pair are the little-endian image of its 128-bit number. -/
def Obligations.TargetBytesAreLittleEndian : Prop :=
  ∀ (bs : List Byte), bs.length = 16 →
    wideBytes (wideOfBytes bs) = bs ∧
    (wideOfBytes bs).val = bs.foldr (fun b rest => b.toNat + 2 ^ 8 * rest) 0

/-! ## Encoding and registers -/

/-- Every instruction decodes back from its encoding, every operand at every value. -/
def Obligations.DecodeOfEncode : Prop :=
  ∀ (i : Instr), decode (encode i) = .ok i

/-- Every code has at most one meaning: what decodes to `i` is the encoding of `i`. -/
def Obligations.EncodeOfDecode : Prop :=
  ∀ (c : Code) (i : Instr), decode c = .ok i → encode i = c

/-- R66, R71: a command word decodes exactly when its ZERO field is clear, its OP is listed and its REG field is
clear or used; the fields stand at R61's bits. -/
def Obligations.DecodeAcceptsTheWellFormedWords : Prop :=
  ∀ (w : CmdWord),
    ((∃ i, decodeCommand w = .ok i) ↔ (splitWord w).wellFormed = true) ∧
    w.toNat = (splitWord w).op.toNat * 2 ^ 24 + (splitWord w).reg.toNat * 2 ^ 16 + (splitWord w).zero.toNat

/-- R62, R68: the ten commands as 32-bit words, with any register number, and the nine micro-operations as phase
codes, each the code of the phase it has its name from and decoded to it; RET has code 0x9 and no
micro-operation. -/
def Obligations.CommandWords : Prop :=
  (∀ r : RegNum, encode (.wrr r) = .command (BitVec.ofNat 32 (0x01000000 + r.toNat * 2 ^ 16))) ∧
  (∀ r : RegNum, encode (.rdr r) = .command (BitVec.ofNat 32 (0x02000000 + r.toNat * 2 ^ 16))) ∧
  encode .nop = .command 0x00000000#32 ∧ encode .wadd = .command 0x10000000#32 ∧
  encode .lstart = .command 0x11000000#32 ∧ encode .bmatch = .command 0x12000000#32 ∧
  encode .breset = .command 0x20000000#32 ∧ encode .launch = .command 0x21000000#32 ∧
  encode .sync = .command 0x22000000#32 ∧ encode .next = .command 0x23000000#32 ∧
  (∀ e ∈ [(Instr.lChk0, Phase.chk0, 0x0#4), (.lStart, .start, 0x1#4), (.lLoop, .loop, 0x2#4), (.lChk, .chk, 0x3#4),
      (.lCmp, .cmp, 0x4#4), (.lCas, .cas, 0x5#4), (.lWrlo, .wrlo, 0x6#4), (.lWrhi, .wrhi, 0x7#4), (.lInc, .inc, 0x8#4)],
    encode e.1 = .phase e.2.2 ∧ e.2.1.code = e.2.2 ∧ decodePhase e.2.2 = .ok e.1) ∧
  Phase.ret.code = 0x9#4 ∧ decodePhase 0x9#4 = .error .returned

/-- A word or a code of each family, written out from R62 and R68, decodes to the instruction it stands for. -/
def Obligations.SampleCodesDecode : Prop :=
  decodeCommand 0b00000001000001000000000000000000#32 = .ok (.wrr 0x04#8) ∧
  decodeCommand 0b00000010000111110000000000000000#32 = .ok (.rdr 0x1F#8) ∧
  decodeCommand 0b00010001000000000000000000000000#32 = .ok .lstart ∧
  decodeCommand 0b00100001000000000000000000000000#32 = .ok .launch ∧
  decodePhase 0b0101#4 = .ok .lCas ∧ decodePhase 0b1001#4 = .error .returned

/-- R12, R19, R63: the 23 numbers and the registers they name, as R63 lists them; a number names a register exactly
when the register has that number, and the unimplemented numbers are those of R12. -/
def Obligations.RegisterNumbersNameTheRegisters : Prop :=
  (∀ e ∈ [(0x00#8, Reg.tgtlo), (0x01#8, .tgthi), (0x02#8, .baselo), (0x03#8, .basehi), (0x04#8, .lanes),
      (0x05#8, .quota), (0x08#8, .flag), (0x09#8, .fndlo), (0x0A#8, .fndhi), (0x0C#8, .total), (0x0D#8, .rsltlo),
      (0x0E#8, .rslthi), (0x10#8, .status), (0x11#8, .fcode), (0x12#8, .finfo), (0x18#8, .opalo), (0x19#8, .opahi),
      (0x1A#8, .opd), (0x1B#8, .opx), (0x1C#8, .opq), (0x1D#8, .reslo), (0x1E#8, .reshi), (0x1F#8, .uflags)],
    Reg.ofNum e.1 = some e.2) ∧
  (∀ (n : RegNum) (r : Reg), Reg.ofNum n = some r ↔ r.num = n) ∧
  ∀ n : RegNum, Reg.ofNum n = none ↔
    n ∈ [0x06#8, 0x07#8, 0x0B#8, 0x0F#8] ∨ (0x13 ≤ n.toNat ∧ n.toNat ≤ 0x17) ∨ 0x20 ≤ n.toNat

/-- R12, R20, R171: the fields of the registers that are no plain words, and the zeros of their other bits. STATUS
reads the number R20 gives the protocol state, and FCODE the number R171 gives the fault code. -/
def Obligations.RegisterFieldsReadAsTabled : Prop :=
  ∀ (s : State),
    (s.readReg .flag).toNat = s.flag.toNat ∧
    (s.readReg .status).toNat = s.pstate.code.toNat ∧ s.pstate.code.toNat ≤ 7 ∧
    (s.readReg .fcode).toNat = s.fcode.code.toNat ∧ s.fcode.code.toNat ≤ 5 ∧
    (∀ e ∈ [(PState.config, 0), (.idle, 1), (.armed, 2), (.running, 3), (.synced, 4), (.doneFound, 5),
        (.doneExhausted, 6), (.fault, 7)],
      s.pstate = e.1 → (s.readReg .status).toNat = e.2) ∧
    (∀ e ∈ [(FaultCode.none, 0), (.illegalCmd, 1), (.badReg, 2), (.protocol, 3), (.access, 4), (.dispatch, 5)],
      s.fcode = e.1 → (s.readReg .fcode).toNat = e.2) ∧
    (s.readReg .finfo).toNat = s.finfo.toNat ∧
    (s.readReg .uflags).toNat =
      s.uflags.ovf.toNat + 2 * s.uflags.carry.toNat + 4 * s.uflags.matched.toNat +
        8 * s.uflags.ptrunc.toNat + 256 * s.uflags.midx.toNat

/-! ## The host commands -/

/-- R130: `NOP` completes in every state and changes nothing but the response. -/
def Obligations.NopCompletes : Prop :=
  ∀ (s : State), exec .nop s = .next { s with rsp := okResponse 0, syncPending := false }

/-- R131: a `WRR` with the right to write completes: the register reads the value written, every other register
reads as before, and nothing else changes but the response. -/
def Obligations.WrrWritesOneRegister : Prop :=
  ∀ (s : State) (n : RegNum) (r : Reg), Reg.ofNum n = some r → s.pstate ≠ .running → s.pstate ≠ .fault →
    (r ∈ [.opalo, .opahi, .opd, .opx, .opq] ∨ (r ∈ [.tgtlo, .tgthi, .lanes, .quota] ∧ s.pstate = .config)) →
    ∃ t, exec (.wrr n) s = .next t ∧ t.readReg r = s.cmd.wdata ∧
      (∀ q, q ≠ r → t.readReg q = s.readReg q) ∧ t.rsp = okResponse 0 ∧ t.syncPending = false ∧
      t.uflags = s.uflags ∧ t.ctx = s.ctx ∧ t.rst = s.rst ∧ t.cmd = s.cmd ∧ t.env = s.env ∧ t.draws = s.draws

/-- R23, with the access column of R12: the write rights, for a `WRR` that R22 admits to an implemented register. The
five RW registers are written, the four RW-C registers are written in `Config` and raise `Fault(ACCESS)`
otherwise, and the fourteen RO registers raise `Fault(ACCESS)`. -/
def Obligations.WriteRights : Prop :=
  ∀ (s : State) (n : RegNum) (r : Reg), Reg.ofNum n = some r → s.pstate ≠ .running → s.pstate ≠ .fault →
    admission .wrr s.pstate = .ok ∧
    (regAccess r = .rw ↔ r ∈ [.opalo, .opahi, .opd, .opx, .opq]) ∧
    (regAccess r = .rwConfig ↔ r ∈ [.tgtlo, .tgthi, .lanes, .quota]) ∧
    (r ∈ [.opalo, .opahi, .opd, .opx, .opq] →
      exec (.wrr n) s = .next ((s.writeReg r s.cmd.wdata).respond false 0)) ∧
    (r ∈ [.tgtlo, .tgthi, .lanes, .quota] → s.pstate = .config →
      exec (.wrr n) s = .next ((s.writeReg r s.cmd.wdata).respond false 0)) ∧
    (r ∈ [.tgtlo, .tgthi, .lanes, .quota] → s.pstate ≠ .config →
      ∃ t, exec (.wrr n) s = .next t ∧ EntersFault s t .access) ∧
    (r ∈ [.baselo, .basehi, .flag, .fndlo, .fndhi, .total, .rsltlo, .rslthi, .status, .fcode, .finfo, .reslo, .reshi,
        .uflags] →
      regAccess r = .ro ∧ ∃ t, exec (.wrr n) s = .next t ∧ EntersFault s t .access)

/-- R132, R44: outside `Running` and `Fault`, `RDR` of an implemented register answers its value and changes
nothing but the response, so a second `RDR` answers the same. -/
def Obligations.RdrAnswersTheRegister : Prop :=
  ∀ (s : State) (n : RegNum) (r : Reg), Reg.ofNum n = some r → s.pstate ≠ .running → s.pstate ≠ .fault →
    exec (.rdr n) s = .next { s with rsp := okResponse (s.readReg r), syncPending := false } ∧
    exec (.rdr n) { s with rsp := okResponse (s.readReg r), syncPending := false } =
      .next { s with rsp := okResponse (s.readReg r), syncPending := false }

/-- R132, R176: `RDR` in `Fault`: STATUS, FCODE and FINFO answer their values; every other implemented register
answers without error a value that nothing fixes (log entry 2); an unimplemented number is refused. Only the
response and the model's count of draws change. -/
def Obligations.RdrInFault : Prop :=
  ∀ (s : State) (n : RegNum), s.pstate = .fault →
    (Reg.ofNum n = none → ∃ t, exec (.rdr n) s = .next t ∧ Refused s t) ∧
    (∀ r, Reg.ofNum n = some r →
      (r ∈ [.status, .fcode, .finfo] →
        exec (.rdr n) s = .next { s with rsp := okResponse (s.readReg r), syncPending := false }) ∧
      (r ∉ [.status, .fcode, .finfo] →
        ∃ v, exec (.rdr n) s =
          .next { s with rsp := okResponse v, syncPending := false, draws := s.draws + 1 }))

/-- R19, R172, R173: where `WRR` and `RDR` trap before the register is touched. Outside `Fault` an unimplemented
number raises `BAD_REG`, in `Running` too; an implemented one raises `PROTOCOL` in `Running`, whatever its access
rights. In `Fault` a `WRR` is refused. That a fault in `Running` deletes the lane contexts is the model's choice among
R188's two (log entry 3). -/
def Obligations.RegisterAccessTrapsInOrder : Prop :=
  ∀ (s : State) (n : RegNum) (i : Instr), i = .wrr n ∨ i = .rdr n →
    (s.pstate ≠ .fault → Reg.ofNum n = none → ∃ t, exec i s = .next t ∧ EntersFault s t .badReg) ∧
    (s.pstate = .running → Reg.ofNum n ≠ none → ∃ t, exec i s = .next t ∧ EntersFault s t .protocol) ∧
    (s.pstate = .fault → i = .wrr n → ∃ t, exec i s = .next t ∧ Refused s t)

/-- R82: where it is admitted, `WADD` leaves in RES the sum modulo 2^128, in OVF whether it reached 2^128, in CARRY
whether the low halves' sum reached 2^64, and changes nothing else but the response. -/
def Obligations.WaddAddsOnce : Prop :=
  ∀ (s : State), s.pstate ≠ .running → s.pstate ≠ .fault →
    ∃ (v : Wide) (o c : Bool),
      exec .wadd s =
        .next { s with
          reslo := v.lo, reshi := v.hi, uflags := { s.uflags with ovf := o, carry := c }
          rsp := okResponse 0, syncPending := false } ∧
      v.val = (s.opa.val + s.opd.toNat) % 2 ^ 128 ∧
      (o = true ↔ 2 ^ 128 ≤ s.opa.val + s.opd.toNat) ∧
      (c = true ↔ 2 ^ 64 ≤ s.opalo.toNat + s.opd.toNat)

/-- R92: where it is admitted, `LSTART` leaves in RES base plus the low 64 bits of index times quota, modulo 2^128,
in PTRUNC whether the product needed more than 64 bits, and changes nothing else but the response. -/
def Obligations.LstartOffsetsOnce : Prop :=
  ∀ (s : State), s.pstate ≠ .running → s.pstate ≠ .fault →
    ∃ (v : Wide) (p : Bool),
      exec .lstart s =
        .next { s with
          reslo := v.lo, reshi := v.hi, uflags := { s.uflags with ptrunc := p }
          rsp := okResponse 0, syncPending := false } ∧
      v.val = (s.opa.val + s.opx.toNat * s.opq.toNat % 2 ^ 64) % 2 ^ 128 ∧
      (p = true ↔ 2 ^ 64 ≤ s.opx.toNat * s.opq.toNat)

/-- R103: where it is admitted, `BMATCH` leaves in MATCH whether OPA equals TGT, in MIDX the index of the first
differing byte or 16, and changes nothing else but the response. -/
def Obligations.BmatchComparesOnce : Prop :=
  ∀ (s : State), s.pstate ≠ .running → s.pstate ≠ .fault →
    ∃ (m : Bool) (k : Nat),
      exec .bmatch s =
        .next { s with
          uflags := { s.uflags with matched := m, midx := BitVec.ofNat 5 k }
          rsp := okResponse 0, syncPending := false } ∧
      (m = true ↔ s.opa = s.tgt) ∧ (m = true ↔ k = 16) ∧ k ≤ 16 ∧
      (∀ j, j < k → wideByte s.opa j = wideByte s.tgt j) ∧
      (k < 16 → wideByte s.opa k ≠ wideByte s.tgt k)

/-- R133: in `Config` and `Idle`, `BRESET` zeroes BatchState, goes to `Armed` and changes nothing else but the
response. -/
def Obligations.BresetArms : Prop :=
  ∀ (s : State), s.pstate = .config ∨ s.pstate = .idle →
    exec .breset s =
      .next { s with
        flag := false, fndlo := 0, fndhi := 0, pstate := .armed, rsp := okResponse 0, syncPending := false }

/-- R105, R134: in `Armed`, with a legal configuration and no dispatch failure, `LAUNCH` goes to `Running` with one
lane for each index below LANES, each in CHK0 and with its index, and changes nothing else but the response and
the model's count of draws. -/
def Obligations.LaunchCreatesTheLanes : Prop :=
  ∀ (s : State), s.pstate = .armed → 1 ≤ s.lanes.toNat → s.lanes.toNat ≤ Config.maxLanes →
    1 ≤ s.quota.toNat → s.lanes.toNat * s.quota.toNat < 2 ^ 64 → s.env.dispatchFails = false →
    ∃ ctx, exec .launch s =
        .next { s with
          ctx := ctx, pstate := .running, draws := s.draws + 1, rsp := okResponse 0, syncPending := false } ∧
      ctx.length = s.lanes.toNat ∧
      ∀ (i : Nat) (l : Lane), ctx[i]? = some l → l.index.toNat = i ∧ l.phase = .chk0

/-- R134, R182: in `Armed`, an illegal configuration or a dispatch failure of the environment raises
`Fault(DISPATCH)`, and no lane is started. -/
def Obligations.LaunchFailsClosed : Prop :=
  ∀ (s : State), s.pstate = .armed →
    (s.lanes.toNat = 0 ∨ Config.maxLanes < s.lanes.toNat ∨ s.quota.toNat = 0 ∨
      2 ^ 64 ≤ s.lanes.toNat * s.quota.toNat ∨ s.env.dispatchFails = true) →
    ∃ t, exec .launch s = .next t ∧ EntersFault s t .dispatch

/-- R136, R51: in `Running`, `SYNC` completes when every lane is in RET: the lane contexts are discarded and the
state is `Synced`. While one lane is not, it is held whatever the flag: no response, the port not ready, and
nothing else changes. -/
def Obligations.SyncWaitsForEveryLane : Prop :=
  ∀ (s : State), s.pstate = .running →
    ((∀ l ∈ s.ctx, l.phase = .ret) →
      exec .sync s =
        .next { s with ctx := [], pstate := .synced, rsp := okResponse 0, syncPending := false }) ∧
    ((∃ l ∈ s.ctx, l.phase ≠ .ret) →
      exec .sync s = .next { s with syncPending := true, rsp := Response.none })

/-- R137: in `Synced`, with the flag claimed, `NEXT` latches the found value as the result and goes to `DoneFound`;
BASE and TOTAL are not changed. With the flag unset and the batch size below 2^64 (which `LAUNCH` has checked) it
adds the batch size to TOTAL modulo 2^64 and to BASE modulo 2^128, and goes to `DoneExhausted` exactly when the
sum reached 2^128, else to `Idle`. Nothing else changes but the response. -/
def Obligations.NextEndsTheIteration : Prop :=
  ∀ (s : State), s.pstate = .synced →
    (s.flag = true →
      exec .next s =
        .next { s with
          rsltlo := s.fndlo, rslthi := s.fndhi, pstate := .doneFound, rsp := okResponse 0
          syncPending := false }) ∧
    (s.flag = false → s.lanes.toNat * s.quota.toNat < 2 ^ 64 →
      ∃ (v : Wide) (total : Word),
        exec .next s =
          .next { s with
            total := total, baselo := v.lo, basehi := v.hi
            pstate :=
              if 2 ^ 128 ≤ s.base.val + s.lanes.toNat * s.quota.toNat then .doneExhausted else .idle
            rsp := okResponse 0, syncPending := false } ∧
        total.toNat = (s.total.toNat + s.lanes.toNat * s.quota.toNat) % 2 ^ 64 ∧
        v.val = (s.base.val + s.lanes.toNat * s.quota.toNat) % 2 ^ 128)

/-- R22: where the admission table says `P` for a command that accesses no register by number, it raises
`Fault(PROTOCOL)`, and in `Fault` it is refused. That a fault in `Running` deletes the lane contexts is the model's
choice among R188's two (log entry 3). -/
def Obligations.CommandsOutOfOrderTrap : Prop :=
  ∀ (i : Instr) (s : State), i ∈ [.wadd, .lstart, .bmatch, .breset, .launch, .sync, .next] →
    (outOfOrder i s.pstate = true → ∃ t, exec i s = .next t ∧ EntersFault s t .protocol) ∧
    (s.pstate = .fault → ∃ t, exec i s = .next t ∧ Refused s t)

/-! ## The lane micro-operations -/

/-- R106, R109, R49: the two flag checks of a lane in that phase. While the flag is unset they go on; while it is
claimed they return, unless the check is stale. Only the lane's phase changes. -/
def Obligations.FlagChecksAreBestEffort : Prop :=
  ∀ (s : State) (l : Lane), s.pstate = .running → s.ctx[s.env.lane]? = some l →
    (l.phase = .chk0 →
      exec .lChk0 s =
        .next { s with
          ctx := s.ctx.set s.env.lane
            { l with phase := if s.flag = true ∧ s.env.stale = false then .ret else .start } }) ∧
    (l.phase = .chk →
      exec .lChk s =
        .next { s with
          ctx := s.ctx.set s.env.lane
            { l with phase := if s.flag = true ∧ s.env.stale = false then .ret else .cmp } })

/-- R107: `L.START` gives the lane its first candidate, base plus the low 64 bits of index times quota, modulo 2^128,
and its whole quota; only the lane changes. -/
def Obligations.StartGivesTheFirstCandidate : Prop :=
  ∀ (s : State) (l : Lane), s.pstate = .running → s.ctx[s.env.lane]? = some l → l.phase = .start →
    ∃ c : Wide,
      exec .lStart s =
        .next { s with
          ctx := s.ctx.set s.env.lane { l with cand := c, rem := s.quota, phase := .loop } } ∧
      c.val = (s.base.val + l.index.toNat * s.quota.toNat % 2 ^ 64) % 2 ^ 128

/-- R108: `L.LOOP` returns when the quota is used up and goes on to the check when it is not; only the lane's phase
changes, no shared register. Its phase code is 0x2. -/
def Obligations.LoopEndsWithTheQuota : Prop :=
  decodePhase 0x2#4 = .ok .lLoop ∧
  ∀ (s : State) (l : Lane), s.pstate = .running → s.ctx[s.env.lane]? = some l → l.phase = .loop →
    exec .lLoop s =
      .next { s with
        ctx := s.ctx.set s.env.lane { l with phase := if l.rem.toNat = 0 then .ret else .chk } }

/-- R110: `L.CMP` goes to CAS exactly when the candidate is the target, else to INC; only the lane's phase
changes. -/
def Obligations.CmpMatchesTheTarget : Prop :=
  ∀ (s : State) (l : Lane), s.pstate = .running → s.ctx[s.env.lane]? = some l → l.phase = .cmp →
    exec .lCmp s =
      .next { s with
        ctx := s.ctx.set s.env.lane { l with phase := if l.cand.val = s.tgt.val then .cas else .inc } }

/-- R47, R111: `L.CAS` on an unset flag claims it and goes to WRLO; on a claimed flag it loses and returns, whatever
the draw of a stale read. Nothing else changes. -/
def Obligations.CasClaimsOnce : Prop :=
  ∀ (s : State) (l : Lane), s.pstate = .running → s.ctx[s.env.lane]? = some l → l.phase = .cas →
    exec .lCas s =
      .next { s with
        flag := true
        ctx := s.ctx.set s.env.lane
          { l with won := !s.flag, phase := if s.flag = true then .ret else .wrlo } }

/-- R112, R113: the winner's two writes, low half then high half, each of its own candidate; nothing else
changes. -/
def Obligations.WinnerWritesBothHalves : Prop :=
  ∀ (s : State) (l : Lane), s.pstate = .running → s.ctx[s.env.lane]? = some l →
    (l.phase = .wrlo →
      exec .lWrlo s =
        .next { s with fndlo := l.cand.lo, ctx := s.ctx.set s.env.lane { l with phase := .wrhi } }) ∧
    (l.phase = .wrhi →
      exec .lWrhi s =
        .next { s with fndhi := l.cand.hi, ctx := s.ctx.set s.env.lane { l with phase := .ret } })

/-- R114: `L.INC` adds one to the candidate modulo 2^128, silently, and takes one from the iterations left; only
the lane changes. -/
def Obligations.IncStepsTheCandidate : Prop :=
  ∀ (s : State) (l : Lane), s.pstate = .running → s.ctx[s.env.lane]? = some l → l.phase = .inc →
    1 ≤ l.rem.toNat →
    ∃ (c : Wide) (r : Word),
      exec .lInc s =
        .next { s with ctx := s.ctx.set s.env.lane { l with cand := c, rem := r, phase := .loop } } ∧
      c.val = (l.cand.val + 1) % 2 ^ 128 ∧ r.toNat = l.rem.toNat - 1

/-- R104, R115: a micro-operation has a next state only in `Running` and for a lane that stands in its phase. In RET,
and where there is no lane, there is none. -/
def Obligations.MicroOperationsNeedTheirPhase : Prop :=
  ∀ (i : Instr) (s t : State), isCommand i = false → exec i s = .next t →
    s.pstate = .running ∧ ∃ l, s.ctx[s.env.lane]? = some l ∧ phaseInstr l.phase = .ok i

/-- R46: what a micro-operation may touch. Every register but FLAG, FNDLO and FNDHI reads as before; FLAG changes
only by `L.CAS`, FNDLO only by `L.WRLO`, FNDHI only by `L.WRHI`; no other lane's context changes; nothing of the
port does. -/
def Obligations.LaneAccessMatrix : Prop :=
  ∀ (i : Instr) (s t : State), isCommand i = false → exec i s = .next t →
    (∀ r, r ∉ [.flag, .fndlo, .fndhi] → t.readReg r = s.readReg r) ∧
    (i ≠ .lCas → t.flag = s.flag) ∧ (i ≠ .lWrlo → t.fndlo = s.fndlo) ∧ (i ≠ .lWrhi → t.fndhi = s.fndhi) ∧
    (∀ j, j ≠ s.env.lane → t.ctx[j]? = s.ctx[j]?) ∧ t.ctx.length = s.ctx.length ∧
    t.rsp = s.rsp ∧ t.syncPending = s.syncPending ∧ t.cmd = s.cmd ∧ t.rst = s.rst ∧ t.env = s.env ∧
    t.draws = s.draws

/-- R47, R55: on any state with several lanes in CAS, however they came there, every micro-operation keeps that at
most one lane has won and has still to write, and that such a lane has claimed the flag. -/
def Obligations.ClaimsExcludeEachOther : Prop :=
  ∀ (i : Instr) (s t : State), isCommand i = false → ClaimOk s → exec i s = .next t → ClaimOk t

/-! ## Faults -/

/-- R175, R188: faults are precise. A command that enters `Fault` has none of its own effects: only what fault entry
writes changes, FINFO holds the command's word, and FCODE is not 0. That a fault in `Running` deletes the lane
contexts is the model's choice among R188's two (log entry 3). -/
def Obligations.FaultsArePrecise : Prop :=
  ∀ (i : Instr) (s t : State), s.pstate ≠ .fault → exec i s = .next t → t.pstate = .fault →
    isCommand i = true ∧ t.fcode ≠ .none ∧ EntersFault s t t.fcode

/-- R176: in `Fault` every command but `NOP` and `RDR` is refused: the response is an error and nothing else
changes. -/
def Obligations.FaultRefusesCommands : Prop :=
  ∀ (i : Instr) (s : State), s.pstate = .fault → isCommand i = true → i ≠ .nop → (∀ n, i ≠ .rdr n) →
    ∃ t, exec i s = .next t ∧ Refused s t

/-- R177: no step but reset leaves `Fault` or changes its record, and none changes a register that can still be
read. -/
def Obligations.FaultIsSticky : Prop :=
  ∀ (s t : State), s.pstate = .fault → nextTurnIsReset s = false → step s = .next t →
    t.pstate = .fault ∧ t.fcode = s.fcode ∧ t.finfo = s.finfo

/-- R66: every word with ZERO not clear, or an OP that is not listed, or REG not clear on an OP that does not use it,
raises `Fault(ILLEGAL_CMD)` when the port accepts it, or is refused in `Fault`. The accepted word is FINFO's. That a
fault in `Running` deletes the lane contexts is the model's choice among R188's two (log entry 3). -/
def Obligations.IllegalWordsFault : Prop :=
  ∀ (s : State) (c : HostCommand) (rest : List HostCommand) (f : Bool) (ts : List Turn),
    s.env.turns = .host f :: ts → s.rst = false → s.syncPending = false → s.env.offers = c :: rest →
    ((splitWord c.word).zero ≠ 0 ∨
      (splitWord c.word).op ∉
        [0x00#8, 0x01#8, 0x02#8, 0x10#8, 0x11#8, 0x12#8, 0x20#8, 0x21#8, 0x22#8, 0x23#8] ∨
      ((splitWord c.word).op ∈ [0x00#8, 0x10#8, 0x11#8, 0x12#8, 0x20#8, 0x21#8, 0x22#8, 0x23#8] ∧
        (splitWord c.word).reg ≠ 0)) →
    ∃ t, step s = .next t ∧
      (s.pstate ≠ .fault →
        EntersFault
          { s with
            cmd := c
            env := { s.env with turns := ts, dispatchFails := f, offers := rest } } t .illegalCmd ∧
          t.finfo = c.word) ∧
      (s.pstate = .fault →
        Refused
          { s with
            cmd := c
            env := { s.env with turns := ts, dispatchFails := f, offers := rest } } t)

/-! ## The step and reset -/

/-- R60, R71, R68: a step runs the decoded instruction. A command the port accepts runs in the state whose `cmd` it
is, with the previous response withdrawn; a lane's turn runs the micro-operation of its phase; a held `SYNC` is
tried again and the offers stay. In each case the turn and its draws are taken from the schedule first. -/
def Obligations.StepRunsTheDecodedInstruction : Prop :=
  (∀ (s : State) (c : HostCommand) (rest : List HostCommand) (f : Bool) (ts : List Turn) (i : Instr),
    s.env.turns = .host f :: ts → s.rst = false → s.syncPending = false → s.env.offers = c :: rest →
    decodeCommand c.word = .ok i →
    step s =
      exec i
        { s with
          cmd := c, rsp := Response.none
          env := { s.env with turns := ts, dispatchFails := f, offers := rest } }) ∧
  (∀ (s : State) (k : Nat) (b : Bool) (ts : List Turn) (l : Lane) (i : Instr),
    s.env.turns = .lane k b :: ts → s.rst = false → s.pstate = .running → s.ctx[k]? = some l →
    decodePhase l.phase.code = .ok i →
    step s = exec i { s with env := { s.env with turns := ts, lane := k, stale := b } }) ∧
  (∀ (s : State) (f : Bool) (ts : List Turn),
    s.env.turns = .host f :: ts → s.rst = false → s.syncPending = true →
    step s = exec .sync { s with env := { s.env with turns := ts, dispatchFails := f } })

/-- Every turn has a successor: no step ends in a fault or a refusal of the model, since the block's own `Fault` is a
state (R20) and a step is asked only of an enabled lane (R104). -/
def Obligations.EveryStepHasASuccessor : Prop :=
  ∀ (s : State), ∃ t, step s = .next t

/-- R30, R201: when `rst` returns to 0 the block is in the reset state, whatever it held: every register reads zero,
`pstate` is Config, there are no lane contexts, no response is presented, and the port is ready. -/
def Obligations.ResetStateIsComplete : Prop :=
  ∀ (s : State) (ts : List Turn),
    s.env.turns = .rst false :: ts → s.rst = true →
    ∃ t, step s = .next t ∧ (∀ r, t.readReg r = 0) ∧ t.pstate = .config ∧ t.ctx = [] ∧
      t.rsp = { valid := false, err := false, rdata := 0 } ∧ t.rst = false ∧ t.cmdReady = true

/-- R200: reset comes in any state, a held `SYNC` and running lanes included, which it abandons without a response;
and while `rst` is 1 no command is accepted and no lane steps: any other turn passes and changes nothing. That the
registers are already reset under `rst` = 1 is the model's reading (log entry 12). -/
def Obligations.ResetHoldsTheBlock : Prop :=
  (∀ (s : State) (ts : List Turn), s.env.turns = .rst true :: ts →
    ∃ t, step s = .next t ∧ t.rst = true ∧ t.cmdReady = false ∧ t.rsp = { valid := false, err := false, rdata := 0 } ∧
      t.syncPending = false ∧ t.ctx = [] ∧ (∀ r, t.readReg r = 0) ∧ t.env.offers = s.env.offers) ∧
  ∀ (s : State), s.rst = true → nextTurnIsReset s = false →
    ∃ e, step s = .next { s with env := e } ∧ e.offers = s.env.offers

/-- R60, R136: while a `SYNC` is held the port accepts nothing: no step but reset takes an offer or presents a
response, until the `SYNC` itself completes. -/
def Obligations.HeldSyncBlocksThePort : Prop :=
  ∀ (s t : State), s.syncPending = true → s.pstate = .running → s.rst = false → nextTurnIsReset s = false →
    step s = .next t →
    t.env.offers = s.env.offers ∧ t.cmd = s.cmd ∧
      ((t.syncPending = true ∧ t.pstate = .running ∧ (t.rsp = s.rsp ∨ t.rsp = Response.none)) ∨
        (t.syncPending = false ∧ t.pstate = .synced ∧ t.rsp = okResponse 0))

/-! ## The whole block -/

/-- R21: a command or micro-operation changes `pstate` only along a row of the table. -/
def Obligations.ProtocolFollowsTheTable : Prop :=
  ∀ (i : Instr) (s t : State), exec i s = .next t → t.pstate ≠ s.pstate →
    transition i s.pstate t.pstate = true

/-- R21, R139, R216: along every step but reset the protocol state stays or follows the table, and from the three
terminal states no step but reset leads to a state that is not terminal. -/
def Obligations.StepsFollowTheProtocol : Prop :=
  ∀ (s t : State), nextTurnIsReset s = false → step s = .next t →
    mayFollow s.pstate t.pstate = true ∧ (terminal s.pstate = true → terminal t.pstate = true)

/-- R14: BASE and TOTAL change by `NEXT` alone, among all commands and micro-operations. -/
def Obligations.OnlyNextMovesTheBase : Prop :=
  ∀ (i : Instr) (s t : State), exec i s = .next t → i ≠ .next → t.base = s.base ∧ t.total = s.total

/-- R15, R212: once `Config` is left, no step but reset changes the target, the lane count or the quota. -/
def Obligations.ParametersAreFrozen : Prop :=
  ∀ (s t : State), s.pstate ≠ .config → nextTurnIsReset s = false → step s = .next t →
    t.tgt = s.tgt ∧ t.lanes = s.lanes ∧ t.quota = s.quota ∧ t.pstate ≠ .config

/-- R48: within a batch the found flag changes at most once, from 0 to 1: no step inside `Running` returns it to 0. -/
def Obligations.FlagIsClaimedForTheBatch : Prop :=
  ∀ (s t : State), s.pstate = .running → t.pstate = .running → nextTurnIsReset s = false →
    step s = .next t → s.flag = true → t.flag = true

/-- The block's invariant holds at reset. -/
def Obligations.ResetMeetsTheInvariant : Prop :=
  BlockInv State.reset

/-- R13, R16, R48, R55, R91, R117, R142: every step, of any agent under any schedule and any draws, keeps the block's
invariant. -/
def Obligations.EveryStepKeepsTheInvariant : Prop :=
  ∀ (s t : State), BlockInv s → step s = .next t → BlockInv t

/-- R117, R141, R216: in every run from reset, whatever the host offers and whatever the schedule and the draws, the
exhausted state is not reached, and in `DoneFound` the result is the target, as a number and byte by byte. -/
def Obligations.RunsFromResetReportTheTarget : Prop :=
  ∀ (k : Nat) (offers : List HostCommand) (turns : List Turn) (t : State),
    run k { State.reset with env := { Env.quiet with offers := offers, turns := turns } } = .next t →
    t.pstate ≠ .doneExhausted ∧ (t.pstate = .doneFound → t.rslt = t.tgt ∧ t.resultBytes = t.targetBytes)

/-- R118: a lane that can step comes strictly nearer to RET by the bound of R118, and no other lane's bound
changes. -/
def Obligations.EveryLaneStepComesNearerToReturn : Prop :=
  ∀ (s t : State) (k : Nat) (b : Bool) (ts : List Turn) (l : Lane),
    BlockInv s → s.env.turns = .lane k b :: ts → s.rst = false → s.pstate = .running →
    s.ctx[k]? = some l → l.phase ≠ .ret → step s = .next t →
    t.pstate = .running ∧
      (∃ m, t.ctx[k]? = some m ∧ stepsLeft s.quota.toNat m < stepsLeft s.quota.toNat l) ∧
      (∀ j, j ≠ k → t.ctx[j]? = s.ctx[j]?)

/-- R118, R136, R214: a held `SYNC` completes under every schedule that gives each lane `4*Q + 4` turns and then the
port one, in any order and with any draws. -/
def Obligations.SyncCompletesUnderAFairSchedule : Prop :=
  ∀ (s : State) (ts : List Turn) (f : Bool),
    BlockInv s → s.pstate = .running → s.rst = false → s.syncPending = true →
    s.env.turns = ts ++ [.host f] → onlyLanes ts = true →
    (∀ i, i < s.lanes.toNat → 4 * s.quota.toNat + 4 ≤ turnsOf i ts) →
    ∃ t, run (ts.length + 1) s = .next t ∧ t.pstate = .synced ∧ t.ctx = [] ∧ t.rsp = okResponse 0

/-- R117, R119: the schedule and the stale reads never change a batch's outcome. Two runs of one batch under a held
`SYNC`, with any turns and any draws but no reset, that both reach `Synced`, end with the same FLAG, FNDLO and
FNDHI. -/
def Obligations.OutcomeIsIndependentOfTheSchedule : Prop :=
  ∀ (s : State) (ts₁ ts₂ : List Turn) (k₁ k₂ : Nat) (t₁ t₂ : State),
    BlockInv s → s.pstate = .running → s.rst = false → s.syncPending = true → noReset ts₁ = true → noReset ts₂ = true →
    run k₁ { s with env := { s.env with offers := [], turns := ts₁ } } = .next t₁ →
    run k₂ { s with env := { s.env with offers := [], turns := ts₂ } } = .next t₂ →
    t₁.pstate = .synced → t₂.pstate = .synced →
    t₁.flag = t₂.flag ∧ t₁.fndlo = t₂.fndlo ∧ t₁.fndhi = t₂.fndhi
end

