-- ==== Sys2Proof/Laws/State.lean ====
section
/-! SUPPORT. The state record: for every named update, what each field reads afterwards, true by rfl and
tagged for simp, so that no proof unfolds a record update. -/

namespace Sys2Proof.Machine

section
variable (s : State) (e : Bool) (d : Word)

@[simp] theorem State.respond_tgtlo : (s.respond e d).tgtlo = s.tgtlo := rfl
@[simp] theorem State.respond_tgthi : (s.respond e d).tgthi = s.tgthi := rfl
@[simp] theorem State.respond_baselo : (s.respond e d).baselo = s.baselo := rfl
@[simp] theorem State.respond_basehi : (s.respond e d).basehi = s.basehi := rfl
@[simp] theorem State.respond_lanes : (s.respond e d).lanes = s.lanes := rfl
@[simp] theorem State.respond_quota : (s.respond e d).quota = s.quota := rfl
@[simp] theorem State.respond_flag : (s.respond e d).flag = s.flag := rfl
@[simp] theorem State.respond_fndlo : (s.respond e d).fndlo = s.fndlo := rfl
@[simp] theorem State.respond_fndhi : (s.respond e d).fndhi = s.fndhi := rfl
@[simp] theorem State.respond_total : (s.respond e d).total = s.total := rfl
@[simp] theorem State.respond_rsltlo : (s.respond e d).rsltlo = s.rsltlo := rfl
@[simp] theorem State.respond_rslthi : (s.respond e d).rslthi = s.rslthi := rfl
@[simp] theorem State.respond_pstate : (s.respond e d).pstate = s.pstate := rfl
@[simp] theorem State.respond_fcode : (s.respond e d).fcode = s.fcode := rfl
@[simp] theorem State.respond_finfo : (s.respond e d).finfo = s.finfo := rfl
@[simp] theorem State.respond_opalo : (s.respond e d).opalo = s.opalo := rfl
@[simp] theorem State.respond_opahi : (s.respond e d).opahi = s.opahi := rfl
@[simp] theorem State.respond_opd : (s.respond e d).opd = s.opd := rfl
@[simp] theorem State.respond_opx : (s.respond e d).opx = s.opx := rfl
@[simp] theorem State.respond_opq : (s.respond e d).opq = s.opq := rfl
@[simp] theorem State.respond_reslo : (s.respond e d).reslo = s.reslo := rfl
@[simp] theorem State.respond_reshi : (s.respond e d).reshi = s.reshi := rfl
@[simp] theorem State.respond_uflags : (s.respond e d).uflags = s.uflags := rfl
@[simp] theorem State.respond_ctx : (s.respond e d).ctx = s.ctx := rfl
@[simp] theorem State.respond_syncPending : (s.respond e d).syncPending = false := rfl
@[simp] theorem State.respond_rst : (s.respond e d).rst = s.rst := rfl
@[simp] theorem State.respond_cmd : (s.respond e d).cmd = s.cmd := rfl
@[simp] theorem State.respond_rsp : (s.respond e d).rsp = { valid := true, err := e, rdata := d } := rfl
@[simp] theorem State.respond_env : (s.respond e d).env = s.env := rfl
@[simp] theorem State.respond_draws : (s.respond e d).draws = s.draws := rfl
@[simp] theorem State.respond_tgt : (s.respond e d).tgt = s.tgt := rfl
@[simp] theorem State.respond_base : (s.respond e d).base = s.base := rfl
@[simp] theorem State.respond_fnd : (s.respond e d).fnd = s.fnd := rfl
@[simp] theorem State.respond_rslt : (s.respond e d).rslt = s.rslt := rfl
@[simp] theorem State.respond_opa : (s.respond e d).opa = s.opa := rfl
@[simp] theorem State.respond_res : (s.respond e d).res = s.res := rfl

end

section
variable (s : State)

@[simp] theorem State.refuse_tgtlo : (s.refuse).tgtlo = s.tgtlo := rfl
@[simp] theorem State.refuse_tgthi : (s.refuse).tgthi = s.tgthi := rfl
@[simp] theorem State.refuse_baselo : (s.refuse).baselo = s.baselo := rfl
@[simp] theorem State.refuse_basehi : (s.refuse).basehi = s.basehi := rfl
@[simp] theorem State.refuse_lanes : (s.refuse).lanes = s.lanes := rfl
@[simp] theorem State.refuse_quota : (s.refuse).quota = s.quota := rfl
@[simp] theorem State.refuse_flag : (s.refuse).flag = s.flag := rfl
@[simp] theorem State.refuse_fndlo : (s.refuse).fndlo = s.fndlo := rfl
@[simp] theorem State.refuse_fndhi : (s.refuse).fndhi = s.fndhi := rfl
@[simp] theorem State.refuse_total : (s.refuse).total = s.total := rfl
@[simp] theorem State.refuse_rsltlo : (s.refuse).rsltlo = s.rsltlo := rfl
@[simp] theorem State.refuse_rslthi : (s.refuse).rslthi = s.rslthi := rfl
@[simp] theorem State.refuse_pstate : (s.refuse).pstate = s.pstate := rfl
@[simp] theorem State.refuse_fcode : (s.refuse).fcode = s.fcode := rfl
@[simp] theorem State.refuse_finfo : (s.refuse).finfo = s.finfo := rfl
@[simp] theorem State.refuse_opalo : (s.refuse).opalo = s.opalo := rfl
@[simp] theorem State.refuse_opahi : (s.refuse).opahi = s.opahi := rfl
@[simp] theorem State.refuse_opd : (s.refuse).opd = s.opd := rfl
@[simp] theorem State.refuse_opx : (s.refuse).opx = s.opx := rfl
@[simp] theorem State.refuse_opq : (s.refuse).opq = s.opq := rfl
@[simp] theorem State.refuse_reslo : (s.refuse).reslo = s.reslo := rfl
@[simp] theorem State.refuse_reshi : (s.refuse).reshi = s.reshi := rfl
@[simp] theorem State.refuse_uflags : (s.refuse).uflags = s.uflags := rfl
@[simp] theorem State.refuse_ctx : (s.refuse).ctx = s.ctx := rfl
@[simp] theorem State.refuse_syncPending : (s.refuse).syncPending = false := rfl
@[simp] theorem State.refuse_rst : (s.refuse).rst = s.rst := rfl
@[simp] theorem State.refuse_cmd : (s.refuse).cmd = s.cmd := rfl
@[simp] theorem State.refuse_rsp : (s.refuse).rsp = { valid := true, err := true, rdata := 0 } := rfl
@[simp] theorem State.refuse_env : (s.refuse).env = s.env := rfl
@[simp] theorem State.refuse_draws : (s.refuse).draws = s.draws := rfl
@[simp] theorem State.refuse_tgt : (s.refuse).tgt = s.tgt := rfl
@[simp] theorem State.refuse_base : (s.refuse).base = s.base := rfl
@[simp] theorem State.refuse_fnd : (s.refuse).fnd = s.fnd := rfl
@[simp] theorem State.refuse_rslt : (s.refuse).rslt = s.rslt := rfl
@[simp] theorem State.refuse_opa : (s.refuse).opa = s.opa := rfl
@[simp] theorem State.refuse_res : (s.refuse).res = s.res := rfl

end

section
variable (s : State)

@[simp] theorem State.respondDraw_tgtlo : (s.respondDraw).tgtlo = s.tgtlo := rfl
@[simp] theorem State.respondDraw_tgthi : (s.respondDraw).tgthi = s.tgthi := rfl
@[simp] theorem State.respondDraw_baselo : (s.respondDraw).baselo = s.baselo := rfl
@[simp] theorem State.respondDraw_basehi : (s.respondDraw).basehi = s.basehi := rfl
@[simp] theorem State.respondDraw_lanes : (s.respondDraw).lanes = s.lanes := rfl
@[simp] theorem State.respondDraw_quota : (s.respondDraw).quota = s.quota := rfl
@[simp] theorem State.respondDraw_flag : (s.respondDraw).flag = s.flag := rfl
@[simp] theorem State.respondDraw_fndlo : (s.respondDraw).fndlo = s.fndlo := rfl
@[simp] theorem State.respondDraw_fndhi : (s.respondDraw).fndhi = s.fndhi := rfl
@[simp] theorem State.respondDraw_total : (s.respondDraw).total = s.total := rfl
@[simp] theorem State.respondDraw_rsltlo : (s.respondDraw).rsltlo = s.rsltlo := rfl
@[simp] theorem State.respondDraw_rslthi : (s.respondDraw).rslthi = s.rslthi := rfl
@[simp] theorem State.respondDraw_pstate : (s.respondDraw).pstate = s.pstate := rfl
@[simp] theorem State.respondDraw_fcode : (s.respondDraw).fcode = s.fcode := rfl
@[simp] theorem State.respondDraw_finfo : (s.respondDraw).finfo = s.finfo := rfl
@[simp] theorem State.respondDraw_opalo : (s.respondDraw).opalo = s.opalo := rfl
@[simp] theorem State.respondDraw_opahi : (s.respondDraw).opahi = s.opahi := rfl
@[simp] theorem State.respondDraw_opd : (s.respondDraw).opd = s.opd := rfl
@[simp] theorem State.respondDraw_opx : (s.respondDraw).opx = s.opx := rfl
@[simp] theorem State.respondDraw_opq : (s.respondDraw).opq = s.opq := rfl
@[simp] theorem State.respondDraw_reslo : (s.respondDraw).reslo = s.reslo := rfl
@[simp] theorem State.respondDraw_reshi : (s.respondDraw).reshi = s.reshi := rfl
@[simp] theorem State.respondDraw_uflags : (s.respondDraw).uflags = s.uflags := rfl
@[simp] theorem State.respondDraw_ctx : (s.respondDraw).ctx = s.ctx := rfl
@[simp] theorem State.respondDraw_syncPending : (s.respondDraw).syncPending = false := rfl
@[simp] theorem State.respondDraw_rst : (s.respondDraw).rst = s.rst := rfl
@[simp] theorem State.respondDraw_cmd : (s.respondDraw).cmd = s.cmd := rfl
@[simp] theorem State.respondDraw_rsp : (s.respondDraw).rsp = { valid := true, err := false, rdata := Config.faultRead s.draws } := rfl
@[simp] theorem State.respondDraw_env : (s.respondDraw).env = s.env := rfl
@[simp] theorem State.respondDraw_draws : (s.respondDraw).draws = s.draws + 1 := rfl
@[simp] theorem State.respondDraw_tgt : (s.respondDraw).tgt = s.tgt := rfl
@[simp] theorem State.respondDraw_base : (s.respondDraw).base = s.base := rfl
@[simp] theorem State.respondDraw_fnd : (s.respondDraw).fnd = s.fnd := rfl
@[simp] theorem State.respondDraw_rslt : (s.respondDraw).rslt = s.rslt := rfl
@[simp] theorem State.respondDraw_opa : (s.respondDraw).opa = s.opa := rfl
@[simp] theorem State.respondDraw_res : (s.respondDraw).res = s.res := rfl

end

section
variable (s : State) (v : Wide)

@[simp] theorem State.withRes_tgtlo : (s.withRes v).tgtlo = s.tgtlo := rfl
@[simp] theorem State.withRes_tgthi : (s.withRes v).tgthi = s.tgthi := rfl
@[simp] theorem State.withRes_baselo : (s.withRes v).baselo = s.baselo := rfl
@[simp] theorem State.withRes_basehi : (s.withRes v).basehi = s.basehi := rfl
@[simp] theorem State.withRes_lanes : (s.withRes v).lanes = s.lanes := rfl
@[simp] theorem State.withRes_quota : (s.withRes v).quota = s.quota := rfl
@[simp] theorem State.withRes_flag : (s.withRes v).flag = s.flag := rfl
@[simp] theorem State.withRes_fndlo : (s.withRes v).fndlo = s.fndlo := rfl
@[simp] theorem State.withRes_fndhi : (s.withRes v).fndhi = s.fndhi := rfl
@[simp] theorem State.withRes_total : (s.withRes v).total = s.total := rfl
@[simp] theorem State.withRes_rsltlo : (s.withRes v).rsltlo = s.rsltlo := rfl
@[simp] theorem State.withRes_rslthi : (s.withRes v).rslthi = s.rslthi := rfl
@[simp] theorem State.withRes_pstate : (s.withRes v).pstate = s.pstate := rfl
@[simp] theorem State.withRes_fcode : (s.withRes v).fcode = s.fcode := rfl
@[simp] theorem State.withRes_finfo : (s.withRes v).finfo = s.finfo := rfl
@[simp] theorem State.withRes_opalo : (s.withRes v).opalo = s.opalo := rfl
@[simp] theorem State.withRes_opahi : (s.withRes v).opahi = s.opahi := rfl
@[simp] theorem State.withRes_opd : (s.withRes v).opd = s.opd := rfl
@[simp] theorem State.withRes_opx : (s.withRes v).opx = s.opx := rfl
@[simp] theorem State.withRes_opq : (s.withRes v).opq = s.opq := rfl
@[simp] theorem State.withRes_reslo : (s.withRes v).reslo = v.lo := rfl
@[simp] theorem State.withRes_reshi : (s.withRes v).reshi = v.hi := rfl
@[simp] theorem State.withRes_uflags : (s.withRes v).uflags = s.uflags := rfl
@[simp] theorem State.withRes_ctx : (s.withRes v).ctx = s.ctx := rfl
@[simp] theorem State.withRes_syncPending : (s.withRes v).syncPending = s.syncPending := rfl
@[simp] theorem State.withRes_rst : (s.withRes v).rst = s.rst := rfl
@[simp] theorem State.withRes_cmd : (s.withRes v).cmd = s.cmd := rfl
@[simp] theorem State.withRes_rsp : (s.withRes v).rsp = s.rsp := rfl
@[simp] theorem State.withRes_env : (s.withRes v).env = s.env := rfl
@[simp] theorem State.withRes_draws : (s.withRes v).draws = s.draws := rfl
@[simp] theorem State.withRes_tgt : (s.withRes v).tgt = s.tgt := rfl
@[simp] theorem State.withRes_base : (s.withRes v).base = s.base := rfl
@[simp] theorem State.withRes_fnd : (s.withRes v).fnd = s.fnd := rfl
@[simp] theorem State.withRes_rslt : (s.withRes v).rslt = s.rslt := rfl
@[simp] theorem State.withRes_opa : (s.withRes v).opa = s.opa := rfl

end

section
variable (s : State) (u : UFlags)

@[simp] theorem State.withUFlags_tgtlo : (s.withUFlags u).tgtlo = s.tgtlo := rfl
@[simp] theorem State.withUFlags_tgthi : (s.withUFlags u).tgthi = s.tgthi := rfl
@[simp] theorem State.withUFlags_baselo : (s.withUFlags u).baselo = s.baselo := rfl
@[simp] theorem State.withUFlags_basehi : (s.withUFlags u).basehi = s.basehi := rfl
@[simp] theorem State.withUFlags_lanes : (s.withUFlags u).lanes = s.lanes := rfl
@[simp] theorem State.withUFlags_quota : (s.withUFlags u).quota = s.quota := rfl
@[simp] theorem State.withUFlags_flag : (s.withUFlags u).flag = s.flag := rfl
@[simp] theorem State.withUFlags_fndlo : (s.withUFlags u).fndlo = s.fndlo := rfl
@[simp] theorem State.withUFlags_fndhi : (s.withUFlags u).fndhi = s.fndhi := rfl
@[simp] theorem State.withUFlags_total : (s.withUFlags u).total = s.total := rfl
@[simp] theorem State.withUFlags_rsltlo : (s.withUFlags u).rsltlo = s.rsltlo := rfl
@[simp] theorem State.withUFlags_rslthi : (s.withUFlags u).rslthi = s.rslthi := rfl
@[simp] theorem State.withUFlags_pstate : (s.withUFlags u).pstate = s.pstate := rfl
@[simp] theorem State.withUFlags_fcode : (s.withUFlags u).fcode = s.fcode := rfl
@[simp] theorem State.withUFlags_finfo : (s.withUFlags u).finfo = s.finfo := rfl
@[simp] theorem State.withUFlags_opalo : (s.withUFlags u).opalo = s.opalo := rfl
@[simp] theorem State.withUFlags_opahi : (s.withUFlags u).opahi = s.opahi := rfl
@[simp] theorem State.withUFlags_opd : (s.withUFlags u).opd = s.opd := rfl
@[simp] theorem State.withUFlags_opx : (s.withUFlags u).opx = s.opx := rfl
@[simp] theorem State.withUFlags_opq : (s.withUFlags u).opq = s.opq := rfl
@[simp] theorem State.withUFlags_reslo : (s.withUFlags u).reslo = s.reslo := rfl
@[simp] theorem State.withUFlags_reshi : (s.withUFlags u).reshi = s.reshi := rfl
@[simp] theorem State.withUFlags_uflags : (s.withUFlags u).uflags = u := rfl
@[simp] theorem State.withUFlags_ctx : (s.withUFlags u).ctx = s.ctx := rfl
@[simp] theorem State.withUFlags_syncPending : (s.withUFlags u).syncPending = s.syncPending := rfl
@[simp] theorem State.withUFlags_rst : (s.withUFlags u).rst = s.rst := rfl
@[simp] theorem State.withUFlags_cmd : (s.withUFlags u).cmd = s.cmd := rfl
@[simp] theorem State.withUFlags_rsp : (s.withUFlags u).rsp = s.rsp := rfl
@[simp] theorem State.withUFlags_env : (s.withUFlags u).env = s.env := rfl
@[simp] theorem State.withUFlags_draws : (s.withUFlags u).draws = s.draws := rfl
@[simp] theorem State.withUFlags_tgt : (s.withUFlags u).tgt = s.tgt := rfl
@[simp] theorem State.withUFlags_base : (s.withUFlags u).base = s.base := rfl
@[simp] theorem State.withUFlags_fnd : (s.withUFlags u).fnd = s.fnd := rfl
@[simp] theorem State.withUFlags_rslt : (s.withUFlags u).rslt = s.rslt := rfl
@[simp] theorem State.withUFlags_opa : (s.withUFlags u).opa = s.opa := rfl
@[simp] theorem State.withUFlags_res : (s.withUFlags u).res = s.res := rfl

end

section
variable (s : State) (p : PState)

@[simp] theorem State.withPState_tgtlo : (s.withPState p).tgtlo = s.tgtlo := rfl
@[simp] theorem State.withPState_tgthi : (s.withPState p).tgthi = s.tgthi := rfl
@[simp] theorem State.withPState_baselo : (s.withPState p).baselo = s.baselo := rfl
@[simp] theorem State.withPState_basehi : (s.withPState p).basehi = s.basehi := rfl
@[simp] theorem State.withPState_lanes : (s.withPState p).lanes = s.lanes := rfl
@[simp] theorem State.withPState_quota : (s.withPState p).quota = s.quota := rfl
@[simp] theorem State.withPState_flag : (s.withPState p).flag = s.flag := rfl
@[simp] theorem State.withPState_fndlo : (s.withPState p).fndlo = s.fndlo := rfl
@[simp] theorem State.withPState_fndhi : (s.withPState p).fndhi = s.fndhi := rfl
@[simp] theorem State.withPState_total : (s.withPState p).total = s.total := rfl
@[simp] theorem State.withPState_rsltlo : (s.withPState p).rsltlo = s.rsltlo := rfl
@[simp] theorem State.withPState_rslthi : (s.withPState p).rslthi = s.rslthi := rfl
@[simp] theorem State.withPState_pstate : (s.withPState p).pstate = p := rfl
@[simp] theorem State.withPState_fcode : (s.withPState p).fcode = s.fcode := rfl
@[simp] theorem State.withPState_finfo : (s.withPState p).finfo = s.finfo := rfl
@[simp] theorem State.withPState_opalo : (s.withPState p).opalo = s.opalo := rfl
@[simp] theorem State.withPState_opahi : (s.withPState p).opahi = s.opahi := rfl
@[simp] theorem State.withPState_opd : (s.withPState p).opd = s.opd := rfl
@[simp] theorem State.withPState_opx : (s.withPState p).opx = s.opx := rfl
@[simp] theorem State.withPState_opq : (s.withPState p).opq = s.opq := rfl
@[simp] theorem State.withPState_reslo : (s.withPState p).reslo = s.reslo := rfl
@[simp] theorem State.withPState_reshi : (s.withPState p).reshi = s.reshi := rfl
@[simp] theorem State.withPState_uflags : (s.withPState p).uflags = s.uflags := rfl
@[simp] theorem State.withPState_ctx : (s.withPState p).ctx = s.ctx := rfl
@[simp] theorem State.withPState_syncPending : (s.withPState p).syncPending = s.syncPending := rfl
@[simp] theorem State.withPState_rst : (s.withPState p).rst = s.rst := rfl
@[simp] theorem State.withPState_cmd : (s.withPState p).cmd = s.cmd := rfl
@[simp] theorem State.withPState_rsp : (s.withPState p).rsp = s.rsp := rfl
@[simp] theorem State.withPState_env : (s.withPState p).env = s.env := rfl
@[simp] theorem State.withPState_draws : (s.withPState p).draws = s.draws := rfl
@[simp] theorem State.withPState_tgt : (s.withPState p).tgt = s.tgt := rfl
@[simp] theorem State.withPState_base : (s.withPState p).base = s.base := rfl
@[simp] theorem State.withPState_fnd : (s.withPState p).fnd = s.fnd := rfl
@[simp] theorem State.withPState_rslt : (s.withPState p).rslt = s.rslt := rfl
@[simp] theorem State.withPState_opa : (s.withPState p).opa = s.opa := rfl
@[simp] theorem State.withPState_res : (s.withPState p).res = s.res := rfl

end

section
variable (s : State)

@[simp] theorem State.clearBatch_tgtlo : (s.clearBatch).tgtlo = s.tgtlo := rfl
@[simp] theorem State.clearBatch_tgthi : (s.clearBatch).tgthi = s.tgthi := rfl
@[simp] theorem State.clearBatch_baselo : (s.clearBatch).baselo = s.baselo := rfl
@[simp] theorem State.clearBatch_basehi : (s.clearBatch).basehi = s.basehi := rfl
@[simp] theorem State.clearBatch_lanes : (s.clearBatch).lanes = s.lanes := rfl
@[simp] theorem State.clearBatch_quota : (s.clearBatch).quota = s.quota := rfl
@[simp] theorem State.clearBatch_flag : (s.clearBatch).flag = false := rfl
@[simp] theorem State.clearBatch_fndlo : (s.clearBatch).fndlo = 0 := rfl
@[simp] theorem State.clearBatch_fndhi : (s.clearBatch).fndhi = 0 := rfl
@[simp] theorem State.clearBatch_total : (s.clearBatch).total = s.total := rfl
@[simp] theorem State.clearBatch_rsltlo : (s.clearBatch).rsltlo = s.rsltlo := rfl
@[simp] theorem State.clearBatch_rslthi : (s.clearBatch).rslthi = s.rslthi := rfl
@[simp] theorem State.clearBatch_pstate : (s.clearBatch).pstate = s.pstate := rfl
@[simp] theorem State.clearBatch_fcode : (s.clearBatch).fcode = s.fcode := rfl
@[simp] theorem State.clearBatch_finfo : (s.clearBatch).finfo = s.finfo := rfl
@[simp] theorem State.clearBatch_opalo : (s.clearBatch).opalo = s.opalo := rfl
@[simp] theorem State.clearBatch_opahi : (s.clearBatch).opahi = s.opahi := rfl
@[simp] theorem State.clearBatch_opd : (s.clearBatch).opd = s.opd := rfl
@[simp] theorem State.clearBatch_opx : (s.clearBatch).opx = s.opx := rfl
@[simp] theorem State.clearBatch_opq : (s.clearBatch).opq = s.opq := rfl
@[simp] theorem State.clearBatch_reslo : (s.clearBatch).reslo = s.reslo := rfl
@[simp] theorem State.clearBatch_reshi : (s.clearBatch).reshi = s.reshi := rfl
@[simp] theorem State.clearBatch_uflags : (s.clearBatch).uflags = s.uflags := rfl
@[simp] theorem State.clearBatch_ctx : (s.clearBatch).ctx = s.ctx := rfl
@[simp] theorem State.clearBatch_syncPending : (s.clearBatch).syncPending = s.syncPending := rfl
@[simp] theorem State.clearBatch_rst : (s.clearBatch).rst = s.rst := rfl
@[simp] theorem State.clearBatch_cmd : (s.clearBatch).cmd = s.cmd := rfl
@[simp] theorem State.clearBatch_rsp : (s.clearBatch).rsp = s.rsp := rfl
@[simp] theorem State.clearBatch_env : (s.clearBatch).env = s.env := rfl
@[simp] theorem State.clearBatch_draws : (s.clearBatch).draws = s.draws := rfl
@[simp] theorem State.clearBatch_tgt : (s.clearBatch).tgt = s.tgt := rfl
@[simp] theorem State.clearBatch_base : (s.clearBatch).base = s.base := rfl
@[simp] theorem State.clearBatch_rslt : (s.clearBatch).rslt = s.rslt := rfl
@[simp] theorem State.clearBatch_opa : (s.clearBatch).opa = s.opa := rfl
@[simp] theorem State.clearBatch_res : (s.clearBatch).res = s.res := rfl

end

section
variable (s : State)

@[simp] theorem State.createLanes_tgtlo : (s.createLanes).tgtlo = s.tgtlo := rfl
@[simp] theorem State.createLanes_tgthi : (s.createLanes).tgthi = s.tgthi := rfl
@[simp] theorem State.createLanes_baselo : (s.createLanes).baselo = s.baselo := rfl
@[simp] theorem State.createLanes_basehi : (s.createLanes).basehi = s.basehi := rfl
@[simp] theorem State.createLanes_lanes : (s.createLanes).lanes = s.lanes := rfl
@[simp] theorem State.createLanes_quota : (s.createLanes).quota = s.quota := rfl
@[simp] theorem State.createLanes_flag : (s.createLanes).flag = s.flag := rfl
@[simp] theorem State.createLanes_fndlo : (s.createLanes).fndlo = s.fndlo := rfl
@[simp] theorem State.createLanes_fndhi : (s.createLanes).fndhi = s.fndhi := rfl
@[simp] theorem State.createLanes_total : (s.createLanes).total = s.total := rfl
@[simp] theorem State.createLanes_rsltlo : (s.createLanes).rsltlo = s.rsltlo := rfl
@[simp] theorem State.createLanes_rslthi : (s.createLanes).rslthi = s.rslthi := rfl
@[simp] theorem State.createLanes_pstate : (s.createLanes).pstate = s.pstate := rfl
@[simp] theorem State.createLanes_fcode : (s.createLanes).fcode = s.fcode := rfl
@[simp] theorem State.createLanes_finfo : (s.createLanes).finfo = s.finfo := rfl
@[simp] theorem State.createLanes_opalo : (s.createLanes).opalo = s.opalo := rfl
@[simp] theorem State.createLanes_opahi : (s.createLanes).opahi = s.opahi := rfl
@[simp] theorem State.createLanes_opd : (s.createLanes).opd = s.opd := rfl
@[simp] theorem State.createLanes_opx : (s.createLanes).opx = s.opx := rfl
@[simp] theorem State.createLanes_opq : (s.createLanes).opq = s.opq := rfl
@[simp] theorem State.createLanes_reslo : (s.createLanes).reslo = s.reslo := rfl
@[simp] theorem State.createLanes_reshi : (s.createLanes).reshi = s.reshi := rfl
@[simp] theorem State.createLanes_uflags : (s.createLanes).uflags = s.uflags := rfl
@[simp] theorem State.createLanes_ctx : (s.createLanes).ctx = (List.range s.lanes.toNat).map (freshLane s.draws) := rfl
@[simp] theorem State.createLanes_syncPending : (s.createLanes).syncPending = s.syncPending := rfl
@[simp] theorem State.createLanes_rst : (s.createLanes).rst = s.rst := rfl
@[simp] theorem State.createLanes_cmd : (s.createLanes).cmd = s.cmd := rfl
@[simp] theorem State.createLanes_rsp : (s.createLanes).rsp = s.rsp := rfl
@[simp] theorem State.createLanes_env : (s.createLanes).env = s.env := rfl
@[simp] theorem State.createLanes_draws : (s.createLanes).draws = s.draws + 1 := rfl
@[simp] theorem State.createLanes_tgt : (s.createLanes).tgt = s.tgt := rfl
@[simp] theorem State.createLanes_base : (s.createLanes).base = s.base := rfl
@[simp] theorem State.createLanes_fnd : (s.createLanes).fnd = s.fnd := rfl
@[simp] theorem State.createLanes_rslt : (s.createLanes).rslt = s.rslt := rfl
@[simp] theorem State.createLanes_opa : (s.createLanes).opa = s.opa := rfl
@[simp] theorem State.createLanes_res : (s.createLanes).res = s.res := rfl

end

section
variable (s : State)

@[simp] theorem State.discardLanes_tgtlo : (s.discardLanes).tgtlo = s.tgtlo := rfl
@[simp] theorem State.discardLanes_tgthi : (s.discardLanes).tgthi = s.tgthi := rfl
@[simp] theorem State.discardLanes_baselo : (s.discardLanes).baselo = s.baselo := rfl
@[simp] theorem State.discardLanes_basehi : (s.discardLanes).basehi = s.basehi := rfl
@[simp] theorem State.discardLanes_lanes : (s.discardLanes).lanes = s.lanes := rfl
@[simp] theorem State.discardLanes_quota : (s.discardLanes).quota = s.quota := rfl
@[simp] theorem State.discardLanes_flag : (s.discardLanes).flag = s.flag := rfl
@[simp] theorem State.discardLanes_fndlo : (s.discardLanes).fndlo = s.fndlo := rfl
@[simp] theorem State.discardLanes_fndhi : (s.discardLanes).fndhi = s.fndhi := rfl
@[simp] theorem State.discardLanes_total : (s.discardLanes).total = s.total := rfl
@[simp] theorem State.discardLanes_rsltlo : (s.discardLanes).rsltlo = s.rsltlo := rfl
@[simp] theorem State.discardLanes_rslthi : (s.discardLanes).rslthi = s.rslthi := rfl
@[simp] theorem State.discardLanes_pstate : (s.discardLanes).pstate = s.pstate := rfl
@[simp] theorem State.discardLanes_fcode : (s.discardLanes).fcode = s.fcode := rfl
@[simp] theorem State.discardLanes_finfo : (s.discardLanes).finfo = s.finfo := rfl
@[simp] theorem State.discardLanes_opalo : (s.discardLanes).opalo = s.opalo := rfl
@[simp] theorem State.discardLanes_opahi : (s.discardLanes).opahi = s.opahi := rfl
@[simp] theorem State.discardLanes_opd : (s.discardLanes).opd = s.opd := rfl
@[simp] theorem State.discardLanes_opx : (s.discardLanes).opx = s.opx := rfl
@[simp] theorem State.discardLanes_opq : (s.discardLanes).opq = s.opq := rfl
@[simp] theorem State.discardLanes_reslo : (s.discardLanes).reslo = s.reslo := rfl
@[simp] theorem State.discardLanes_reshi : (s.discardLanes).reshi = s.reshi := rfl
@[simp] theorem State.discardLanes_uflags : (s.discardLanes).uflags = s.uflags := rfl
@[simp] theorem State.discardLanes_ctx : (s.discardLanes).ctx = [] := rfl
@[simp] theorem State.discardLanes_syncPending : (s.discardLanes).syncPending = s.syncPending := rfl
@[simp] theorem State.discardLanes_rst : (s.discardLanes).rst = s.rst := rfl
@[simp] theorem State.discardLanes_cmd : (s.discardLanes).cmd = s.cmd := rfl
@[simp] theorem State.discardLanes_rsp : (s.discardLanes).rsp = s.rsp := rfl
@[simp] theorem State.discardLanes_env : (s.discardLanes).env = s.env := rfl
@[simp] theorem State.discardLanes_draws : (s.discardLanes).draws = s.draws := rfl
@[simp] theorem State.discardLanes_tgt : (s.discardLanes).tgt = s.tgt := rfl
@[simp] theorem State.discardLanes_base : (s.discardLanes).base = s.base := rfl
@[simp] theorem State.discardLanes_fnd : (s.discardLanes).fnd = s.fnd := rfl
@[simp] theorem State.discardLanes_rslt : (s.discardLanes).rslt = s.rslt := rfl
@[simp] theorem State.discardLanes_opa : (s.discardLanes).opa = s.opa := rfl
@[simp] theorem State.discardLanes_res : (s.discardLanes).res = s.res := rfl

end

section
variable (s : State)

@[simp] theorem State.holdSync_tgtlo : (s.holdSync).tgtlo = s.tgtlo := rfl
@[simp] theorem State.holdSync_tgthi : (s.holdSync).tgthi = s.tgthi := rfl
@[simp] theorem State.holdSync_baselo : (s.holdSync).baselo = s.baselo := rfl
@[simp] theorem State.holdSync_basehi : (s.holdSync).basehi = s.basehi := rfl
@[simp] theorem State.holdSync_lanes : (s.holdSync).lanes = s.lanes := rfl
@[simp] theorem State.holdSync_quota : (s.holdSync).quota = s.quota := rfl
@[simp] theorem State.holdSync_flag : (s.holdSync).flag = s.flag := rfl
@[simp] theorem State.holdSync_fndlo : (s.holdSync).fndlo = s.fndlo := rfl
@[simp] theorem State.holdSync_fndhi : (s.holdSync).fndhi = s.fndhi := rfl
@[simp] theorem State.holdSync_total : (s.holdSync).total = s.total := rfl
@[simp] theorem State.holdSync_rsltlo : (s.holdSync).rsltlo = s.rsltlo := rfl
@[simp] theorem State.holdSync_rslthi : (s.holdSync).rslthi = s.rslthi := rfl
@[simp] theorem State.holdSync_pstate : (s.holdSync).pstate = s.pstate := rfl
@[simp] theorem State.holdSync_fcode : (s.holdSync).fcode = s.fcode := rfl
@[simp] theorem State.holdSync_finfo : (s.holdSync).finfo = s.finfo := rfl
@[simp] theorem State.holdSync_opalo : (s.holdSync).opalo = s.opalo := rfl
@[simp] theorem State.holdSync_opahi : (s.holdSync).opahi = s.opahi := rfl
@[simp] theorem State.holdSync_opd : (s.holdSync).opd = s.opd := rfl
@[simp] theorem State.holdSync_opx : (s.holdSync).opx = s.opx := rfl
@[simp] theorem State.holdSync_opq : (s.holdSync).opq = s.opq := rfl
@[simp] theorem State.holdSync_reslo : (s.holdSync).reslo = s.reslo := rfl
@[simp] theorem State.holdSync_reshi : (s.holdSync).reshi = s.reshi := rfl
@[simp] theorem State.holdSync_uflags : (s.holdSync).uflags = s.uflags := rfl
@[simp] theorem State.holdSync_ctx : (s.holdSync).ctx = s.ctx := rfl
@[simp] theorem State.holdSync_syncPending : (s.holdSync).syncPending = true := rfl
@[simp] theorem State.holdSync_rst : (s.holdSync).rst = s.rst := rfl
@[simp] theorem State.holdSync_cmd : (s.holdSync).cmd = s.cmd := rfl
@[simp] theorem State.holdSync_rsp : (s.holdSync).rsp = Response.none := rfl
@[simp] theorem State.holdSync_env : (s.holdSync).env = s.env := rfl
@[simp] theorem State.holdSync_draws : (s.holdSync).draws = s.draws := rfl
@[simp] theorem State.holdSync_tgt : (s.holdSync).tgt = s.tgt := rfl
@[simp] theorem State.holdSync_base : (s.holdSync).base = s.base := rfl
@[simp] theorem State.holdSync_fnd : (s.holdSync).fnd = s.fnd := rfl
@[simp] theorem State.holdSync_rslt : (s.holdSync).rslt = s.rslt := rfl
@[simp] theorem State.holdSync_opa : (s.holdSync).opa = s.opa := rfl
@[simp] theorem State.holdSync_res : (s.holdSync).res = s.res := rfl

end

section
variable (s : State)

@[simp] theorem State.takeResult_tgtlo : (s.takeResult).tgtlo = s.tgtlo := rfl
@[simp] theorem State.takeResult_tgthi : (s.takeResult).tgthi = s.tgthi := rfl
@[simp] theorem State.takeResult_baselo : (s.takeResult).baselo = s.baselo := rfl
@[simp] theorem State.takeResult_basehi : (s.takeResult).basehi = s.basehi := rfl
@[simp] theorem State.takeResult_lanes : (s.takeResult).lanes = s.lanes := rfl
@[simp] theorem State.takeResult_quota : (s.takeResult).quota = s.quota := rfl
@[simp] theorem State.takeResult_flag : (s.takeResult).flag = s.flag := rfl
@[simp] theorem State.takeResult_fndlo : (s.takeResult).fndlo = s.fndlo := rfl
@[simp] theorem State.takeResult_fndhi : (s.takeResult).fndhi = s.fndhi := rfl
@[simp] theorem State.takeResult_total : (s.takeResult).total = s.total := rfl
@[simp] theorem State.takeResult_rsltlo : (s.takeResult).rsltlo = s.fndlo := rfl
@[simp] theorem State.takeResult_rslthi : (s.takeResult).rslthi = s.fndhi := rfl
@[simp] theorem State.takeResult_pstate : (s.takeResult).pstate = s.pstate := rfl
@[simp] theorem State.takeResult_fcode : (s.takeResult).fcode = s.fcode := rfl
@[simp] theorem State.takeResult_finfo : (s.takeResult).finfo = s.finfo := rfl
@[simp] theorem State.takeResult_opalo : (s.takeResult).opalo = s.opalo := rfl
@[simp] theorem State.takeResult_opahi : (s.takeResult).opahi = s.opahi := rfl
@[simp] theorem State.takeResult_opd : (s.takeResult).opd = s.opd := rfl
@[simp] theorem State.takeResult_opx : (s.takeResult).opx = s.opx := rfl
@[simp] theorem State.takeResult_opq : (s.takeResult).opq = s.opq := rfl
@[simp] theorem State.takeResult_reslo : (s.takeResult).reslo = s.reslo := rfl
@[simp] theorem State.takeResult_reshi : (s.takeResult).reshi = s.reshi := rfl
@[simp] theorem State.takeResult_uflags : (s.takeResult).uflags = s.uflags := rfl
@[simp] theorem State.takeResult_ctx : (s.takeResult).ctx = s.ctx := rfl
@[simp] theorem State.takeResult_syncPending : (s.takeResult).syncPending = s.syncPending := rfl
@[simp] theorem State.takeResult_rst : (s.takeResult).rst = s.rst := rfl
@[simp] theorem State.takeResult_cmd : (s.takeResult).cmd = s.cmd := rfl
@[simp] theorem State.takeResult_rsp : (s.takeResult).rsp = s.rsp := rfl
@[simp] theorem State.takeResult_env : (s.takeResult).env = s.env := rfl
@[simp] theorem State.takeResult_draws : (s.takeResult).draws = s.draws := rfl
@[simp] theorem State.takeResult_tgt : (s.takeResult).tgt = s.tgt := rfl
@[simp] theorem State.takeResult_base : (s.takeResult).base = s.base := rfl
@[simp] theorem State.takeResult_fnd : (s.takeResult).fnd = s.fnd := rfl
@[simp] theorem State.takeResult_opa : (s.takeResult).opa = s.opa := rfl
@[simp] theorem State.takeResult_res : (s.takeResult).res = s.res := rfl

end

section
variable (s : State)

@[simp] theorem State.advance_tgtlo : (s.advance).tgtlo = s.tgtlo := rfl
@[simp] theorem State.advance_tgthi : (s.advance).tgthi = s.tgthi := rfl
@[simp] theorem State.advance_baselo : (s.advance).baselo = (add s.base s.batchSize).1.lo := rfl
@[simp] theorem State.advance_basehi : (s.advance).basehi = (add s.base s.batchSize).1.hi := rfl
@[simp] theorem State.advance_lanes : (s.advance).lanes = s.lanes := rfl
@[simp] theorem State.advance_quota : (s.advance).quota = s.quota := rfl
@[simp] theorem State.advance_flag : (s.advance).flag = s.flag := rfl
@[simp] theorem State.advance_fndlo : (s.advance).fndlo = s.fndlo := rfl
@[simp] theorem State.advance_fndhi : (s.advance).fndhi = s.fndhi := rfl
@[simp] theorem State.advance_total : (s.advance).total = s.total + s.batchSize := rfl
@[simp] theorem State.advance_rsltlo : (s.advance).rsltlo = s.rsltlo := rfl
@[simp] theorem State.advance_rslthi : (s.advance).rslthi = s.rslthi := rfl
@[simp] theorem State.advance_pstate : (s.advance).pstate = s.pstate := rfl
@[simp] theorem State.advance_fcode : (s.advance).fcode = s.fcode := rfl
@[simp] theorem State.advance_finfo : (s.advance).finfo = s.finfo := rfl
@[simp] theorem State.advance_opalo : (s.advance).opalo = s.opalo := rfl
@[simp] theorem State.advance_opahi : (s.advance).opahi = s.opahi := rfl
@[simp] theorem State.advance_opd : (s.advance).opd = s.opd := rfl
@[simp] theorem State.advance_opx : (s.advance).opx = s.opx := rfl
@[simp] theorem State.advance_opq : (s.advance).opq = s.opq := rfl
@[simp] theorem State.advance_reslo : (s.advance).reslo = s.reslo := rfl
@[simp] theorem State.advance_reshi : (s.advance).reshi = s.reshi := rfl
@[simp] theorem State.advance_uflags : (s.advance).uflags = s.uflags := rfl
@[simp] theorem State.advance_ctx : (s.advance).ctx = s.ctx := rfl
@[simp] theorem State.advance_syncPending : (s.advance).syncPending = s.syncPending := rfl
@[simp] theorem State.advance_rst : (s.advance).rst = s.rst := rfl
@[simp] theorem State.advance_cmd : (s.advance).cmd = s.cmd := rfl
@[simp] theorem State.advance_rsp : (s.advance).rsp = s.rsp := rfl
@[simp] theorem State.advance_env : (s.advance).env = s.env := rfl
@[simp] theorem State.advance_draws : (s.advance).draws = s.draws := rfl
@[simp] theorem State.advance_tgt : (s.advance).tgt = s.tgt := rfl
@[simp] theorem State.advance_fnd : (s.advance).fnd = s.fnd := rfl
@[simp] theorem State.advance_rslt : (s.advance).rslt = s.rslt := rfl
@[simp] theorem State.advance_opa : (s.advance).opa = s.opa := rfl
@[simp] theorem State.advance_res : (s.advance).res = s.res := rfl

end

section
variable (s : State) (l : Lane)

@[simp] theorem State.setLane_tgtlo : (s.setLane l).tgtlo = s.tgtlo := rfl
@[simp] theorem State.setLane_tgthi : (s.setLane l).tgthi = s.tgthi := rfl
@[simp] theorem State.setLane_baselo : (s.setLane l).baselo = s.baselo := rfl
@[simp] theorem State.setLane_basehi : (s.setLane l).basehi = s.basehi := rfl
@[simp] theorem State.setLane_lanes : (s.setLane l).lanes = s.lanes := rfl
@[simp] theorem State.setLane_quota : (s.setLane l).quota = s.quota := rfl
@[simp] theorem State.setLane_flag : (s.setLane l).flag = s.flag := rfl
@[simp] theorem State.setLane_fndlo : (s.setLane l).fndlo = s.fndlo := rfl
@[simp] theorem State.setLane_fndhi : (s.setLane l).fndhi = s.fndhi := rfl
@[simp] theorem State.setLane_total : (s.setLane l).total = s.total := rfl
@[simp] theorem State.setLane_rsltlo : (s.setLane l).rsltlo = s.rsltlo := rfl
@[simp] theorem State.setLane_rslthi : (s.setLane l).rslthi = s.rslthi := rfl
@[simp] theorem State.setLane_pstate : (s.setLane l).pstate = s.pstate := rfl
@[simp] theorem State.setLane_fcode : (s.setLane l).fcode = s.fcode := rfl
@[simp] theorem State.setLane_finfo : (s.setLane l).finfo = s.finfo := rfl
@[simp] theorem State.setLane_opalo : (s.setLane l).opalo = s.opalo := rfl
@[simp] theorem State.setLane_opahi : (s.setLane l).opahi = s.opahi := rfl
@[simp] theorem State.setLane_opd : (s.setLane l).opd = s.opd := rfl
@[simp] theorem State.setLane_opx : (s.setLane l).opx = s.opx := rfl
@[simp] theorem State.setLane_opq : (s.setLane l).opq = s.opq := rfl
@[simp] theorem State.setLane_reslo : (s.setLane l).reslo = s.reslo := rfl
@[simp] theorem State.setLane_reshi : (s.setLane l).reshi = s.reshi := rfl
@[simp] theorem State.setLane_uflags : (s.setLane l).uflags = s.uflags := rfl
@[simp] theorem State.setLane_ctx : (s.setLane l).ctx = s.ctx.set s.env.lane l := rfl
@[simp] theorem State.setLane_syncPending : (s.setLane l).syncPending = s.syncPending := rfl
@[simp] theorem State.setLane_rst : (s.setLane l).rst = s.rst := rfl
@[simp] theorem State.setLane_cmd : (s.setLane l).cmd = s.cmd := rfl
@[simp] theorem State.setLane_rsp : (s.setLane l).rsp = s.rsp := rfl
@[simp] theorem State.setLane_env : (s.setLane l).env = s.env := rfl
@[simp] theorem State.setLane_draws : (s.setLane l).draws = s.draws := rfl
@[simp] theorem State.setLane_tgt : (s.setLane l).tgt = s.tgt := rfl
@[simp] theorem State.setLane_base : (s.setLane l).base = s.base := rfl
@[simp] theorem State.setLane_fnd : (s.setLane l).fnd = s.fnd := rfl
@[simp] theorem State.setLane_rslt : (s.setLane l).rslt = s.rslt := rfl
@[simp] theorem State.setLane_opa : (s.setLane l).opa = s.opa := rfl
@[simp] theorem State.setLane_res : (s.setLane l).res = s.res := rfl

end

section
variable (s : State)

@[simp] theorem State.claim_tgtlo : (s.claim).tgtlo = s.tgtlo := rfl
@[simp] theorem State.claim_tgthi : (s.claim).tgthi = s.tgthi := rfl
@[simp] theorem State.claim_baselo : (s.claim).baselo = s.baselo := rfl
@[simp] theorem State.claim_basehi : (s.claim).basehi = s.basehi := rfl
@[simp] theorem State.claim_lanes : (s.claim).lanes = s.lanes := rfl
@[simp] theorem State.claim_quota : (s.claim).quota = s.quota := rfl
@[simp] theorem State.claim_flag : (s.claim).flag = true := rfl
@[simp] theorem State.claim_fndlo : (s.claim).fndlo = s.fndlo := rfl
@[simp] theorem State.claim_fndhi : (s.claim).fndhi = s.fndhi := rfl
@[simp] theorem State.claim_total : (s.claim).total = s.total := rfl
@[simp] theorem State.claim_rsltlo : (s.claim).rsltlo = s.rsltlo := rfl
@[simp] theorem State.claim_rslthi : (s.claim).rslthi = s.rslthi := rfl
@[simp] theorem State.claim_pstate : (s.claim).pstate = s.pstate := rfl
@[simp] theorem State.claim_fcode : (s.claim).fcode = s.fcode := rfl
@[simp] theorem State.claim_finfo : (s.claim).finfo = s.finfo := rfl
@[simp] theorem State.claim_opalo : (s.claim).opalo = s.opalo := rfl
@[simp] theorem State.claim_opahi : (s.claim).opahi = s.opahi := rfl
@[simp] theorem State.claim_opd : (s.claim).opd = s.opd := rfl
@[simp] theorem State.claim_opx : (s.claim).opx = s.opx := rfl
@[simp] theorem State.claim_opq : (s.claim).opq = s.opq := rfl
@[simp] theorem State.claim_reslo : (s.claim).reslo = s.reslo := rfl
@[simp] theorem State.claim_reshi : (s.claim).reshi = s.reshi := rfl
@[simp] theorem State.claim_uflags : (s.claim).uflags = s.uflags := rfl
@[simp] theorem State.claim_ctx : (s.claim).ctx = s.ctx := rfl
@[simp] theorem State.claim_syncPending : (s.claim).syncPending = s.syncPending := rfl
@[simp] theorem State.claim_rst : (s.claim).rst = s.rst := rfl
@[simp] theorem State.claim_cmd : (s.claim).cmd = s.cmd := rfl
@[simp] theorem State.claim_rsp : (s.claim).rsp = s.rsp := rfl
@[simp] theorem State.claim_env : (s.claim).env = s.env := rfl
@[simp] theorem State.claim_draws : (s.claim).draws = s.draws := rfl
@[simp] theorem State.claim_tgt : (s.claim).tgt = s.tgt := rfl
@[simp] theorem State.claim_base : (s.claim).base = s.base := rfl
@[simp] theorem State.claim_fnd : (s.claim).fnd = s.fnd := rfl
@[simp] theorem State.claim_rslt : (s.claim).rslt = s.rslt := rfl
@[simp] theorem State.claim_opa : (s.claim).opa = s.opa := rfl
@[simp] theorem State.claim_res : (s.claim).res = s.res := rfl

end

section
variable (s : State) (v : Word)

@[simp] theorem State.withFndlo_tgtlo : (s.withFndlo v).tgtlo = s.tgtlo := rfl
@[simp] theorem State.withFndlo_tgthi : (s.withFndlo v).tgthi = s.tgthi := rfl
@[simp] theorem State.withFndlo_baselo : (s.withFndlo v).baselo = s.baselo := rfl
@[simp] theorem State.withFndlo_basehi : (s.withFndlo v).basehi = s.basehi := rfl
@[simp] theorem State.withFndlo_lanes : (s.withFndlo v).lanes = s.lanes := rfl
@[simp] theorem State.withFndlo_quota : (s.withFndlo v).quota = s.quota := rfl
@[simp] theorem State.withFndlo_flag : (s.withFndlo v).flag = s.flag := rfl
@[simp] theorem State.withFndlo_fndlo : (s.withFndlo v).fndlo = v := rfl
@[simp] theorem State.withFndlo_fndhi : (s.withFndlo v).fndhi = s.fndhi := rfl
@[simp] theorem State.withFndlo_total : (s.withFndlo v).total = s.total := rfl
@[simp] theorem State.withFndlo_rsltlo : (s.withFndlo v).rsltlo = s.rsltlo := rfl
@[simp] theorem State.withFndlo_rslthi : (s.withFndlo v).rslthi = s.rslthi := rfl
@[simp] theorem State.withFndlo_pstate : (s.withFndlo v).pstate = s.pstate := rfl
@[simp] theorem State.withFndlo_fcode : (s.withFndlo v).fcode = s.fcode := rfl
@[simp] theorem State.withFndlo_finfo : (s.withFndlo v).finfo = s.finfo := rfl
@[simp] theorem State.withFndlo_opalo : (s.withFndlo v).opalo = s.opalo := rfl
@[simp] theorem State.withFndlo_opahi : (s.withFndlo v).opahi = s.opahi := rfl
@[simp] theorem State.withFndlo_opd : (s.withFndlo v).opd = s.opd := rfl
@[simp] theorem State.withFndlo_opx : (s.withFndlo v).opx = s.opx := rfl
@[simp] theorem State.withFndlo_opq : (s.withFndlo v).opq = s.opq := rfl
@[simp] theorem State.withFndlo_reslo : (s.withFndlo v).reslo = s.reslo := rfl
@[simp] theorem State.withFndlo_reshi : (s.withFndlo v).reshi = s.reshi := rfl
@[simp] theorem State.withFndlo_uflags : (s.withFndlo v).uflags = s.uflags := rfl
@[simp] theorem State.withFndlo_ctx : (s.withFndlo v).ctx = s.ctx := rfl
@[simp] theorem State.withFndlo_syncPending : (s.withFndlo v).syncPending = s.syncPending := rfl
@[simp] theorem State.withFndlo_rst : (s.withFndlo v).rst = s.rst := rfl
@[simp] theorem State.withFndlo_cmd : (s.withFndlo v).cmd = s.cmd := rfl
@[simp] theorem State.withFndlo_rsp : (s.withFndlo v).rsp = s.rsp := rfl
@[simp] theorem State.withFndlo_env : (s.withFndlo v).env = s.env := rfl
@[simp] theorem State.withFndlo_draws : (s.withFndlo v).draws = s.draws := rfl
@[simp] theorem State.withFndlo_tgt : (s.withFndlo v).tgt = s.tgt := rfl
@[simp] theorem State.withFndlo_base : (s.withFndlo v).base = s.base := rfl
@[simp] theorem State.withFndlo_rslt : (s.withFndlo v).rslt = s.rslt := rfl
@[simp] theorem State.withFndlo_opa : (s.withFndlo v).opa = s.opa := rfl
@[simp] theorem State.withFndlo_res : (s.withFndlo v).res = s.res := rfl

end

section
variable (s : State) (v : Word)

@[simp] theorem State.withFndhi_tgtlo : (s.withFndhi v).tgtlo = s.tgtlo := rfl
@[simp] theorem State.withFndhi_tgthi : (s.withFndhi v).tgthi = s.tgthi := rfl
@[simp] theorem State.withFndhi_baselo : (s.withFndhi v).baselo = s.baselo := rfl
@[simp] theorem State.withFndhi_basehi : (s.withFndhi v).basehi = s.basehi := rfl
@[simp] theorem State.withFndhi_lanes : (s.withFndhi v).lanes = s.lanes := rfl
@[simp] theorem State.withFndhi_quota : (s.withFndhi v).quota = s.quota := rfl
@[simp] theorem State.withFndhi_flag : (s.withFndhi v).flag = s.flag := rfl
@[simp] theorem State.withFndhi_fndlo : (s.withFndhi v).fndlo = s.fndlo := rfl
@[simp] theorem State.withFndhi_fndhi : (s.withFndhi v).fndhi = v := rfl
@[simp] theorem State.withFndhi_total : (s.withFndhi v).total = s.total := rfl
@[simp] theorem State.withFndhi_rsltlo : (s.withFndhi v).rsltlo = s.rsltlo := rfl
@[simp] theorem State.withFndhi_rslthi : (s.withFndhi v).rslthi = s.rslthi := rfl
@[simp] theorem State.withFndhi_pstate : (s.withFndhi v).pstate = s.pstate := rfl
@[simp] theorem State.withFndhi_fcode : (s.withFndhi v).fcode = s.fcode := rfl
@[simp] theorem State.withFndhi_finfo : (s.withFndhi v).finfo = s.finfo := rfl
@[simp] theorem State.withFndhi_opalo : (s.withFndhi v).opalo = s.opalo := rfl
@[simp] theorem State.withFndhi_opahi : (s.withFndhi v).opahi = s.opahi := rfl
@[simp] theorem State.withFndhi_opd : (s.withFndhi v).opd = s.opd := rfl
@[simp] theorem State.withFndhi_opx : (s.withFndhi v).opx = s.opx := rfl
@[simp] theorem State.withFndhi_opq : (s.withFndhi v).opq = s.opq := rfl
@[simp] theorem State.withFndhi_reslo : (s.withFndhi v).reslo = s.reslo := rfl
@[simp] theorem State.withFndhi_reshi : (s.withFndhi v).reshi = s.reshi := rfl
@[simp] theorem State.withFndhi_uflags : (s.withFndhi v).uflags = s.uflags := rfl
@[simp] theorem State.withFndhi_ctx : (s.withFndhi v).ctx = s.ctx := rfl
@[simp] theorem State.withFndhi_syncPending : (s.withFndhi v).syncPending = s.syncPending := rfl
@[simp] theorem State.withFndhi_rst : (s.withFndhi v).rst = s.rst := rfl
@[simp] theorem State.withFndhi_cmd : (s.withFndhi v).cmd = s.cmd := rfl
@[simp] theorem State.withFndhi_rsp : (s.withFndhi v).rsp = s.rsp := rfl
@[simp] theorem State.withFndhi_env : (s.withFndhi v).env = s.env := rfl
@[simp] theorem State.withFndhi_draws : (s.withFndhi v).draws = s.draws := rfl
@[simp] theorem State.withFndhi_tgt : (s.withFndhi v).tgt = s.tgt := rfl
@[simp] theorem State.withFndhi_base : (s.withFndhi v).base = s.base := rfl
@[simp] theorem State.withFndhi_rslt : (s.withFndhi v).rslt = s.rslt := rfl
@[simp] theorem State.withFndhi_opa : (s.withFndhi v).opa = s.opa := rfl
@[simp] theorem State.withFndhi_res : (s.withFndhi v).res = s.res := rfl

end

section
variable (s : State) (c : HostCommand) (r : List HostCommand)

@[simp] theorem State.accept_tgtlo : (s.accept c r).tgtlo = s.tgtlo := rfl
@[simp] theorem State.accept_tgthi : (s.accept c r).tgthi = s.tgthi := rfl
@[simp] theorem State.accept_baselo : (s.accept c r).baselo = s.baselo := rfl
@[simp] theorem State.accept_basehi : (s.accept c r).basehi = s.basehi := rfl
@[simp] theorem State.accept_lanes : (s.accept c r).lanes = s.lanes := rfl
@[simp] theorem State.accept_quota : (s.accept c r).quota = s.quota := rfl
@[simp] theorem State.accept_flag : (s.accept c r).flag = s.flag := rfl
@[simp] theorem State.accept_fndlo : (s.accept c r).fndlo = s.fndlo := rfl
@[simp] theorem State.accept_fndhi : (s.accept c r).fndhi = s.fndhi := rfl
@[simp] theorem State.accept_total : (s.accept c r).total = s.total := rfl
@[simp] theorem State.accept_rsltlo : (s.accept c r).rsltlo = s.rsltlo := rfl
@[simp] theorem State.accept_rslthi : (s.accept c r).rslthi = s.rslthi := rfl
@[simp] theorem State.accept_pstate : (s.accept c r).pstate = s.pstate := rfl
@[simp] theorem State.accept_fcode : (s.accept c r).fcode = s.fcode := rfl
@[simp] theorem State.accept_finfo : (s.accept c r).finfo = s.finfo := rfl
@[simp] theorem State.accept_opalo : (s.accept c r).opalo = s.opalo := rfl
@[simp] theorem State.accept_opahi : (s.accept c r).opahi = s.opahi := rfl
@[simp] theorem State.accept_opd : (s.accept c r).opd = s.opd := rfl
@[simp] theorem State.accept_opx : (s.accept c r).opx = s.opx := rfl
@[simp] theorem State.accept_opq : (s.accept c r).opq = s.opq := rfl
@[simp] theorem State.accept_reslo : (s.accept c r).reslo = s.reslo := rfl
@[simp] theorem State.accept_reshi : (s.accept c r).reshi = s.reshi := rfl
@[simp] theorem State.accept_uflags : (s.accept c r).uflags = s.uflags := rfl
@[simp] theorem State.accept_ctx : (s.accept c r).ctx = s.ctx := rfl
@[simp] theorem State.accept_syncPending : (s.accept c r).syncPending = s.syncPending := rfl
@[simp] theorem State.accept_rst : (s.accept c r).rst = s.rst := rfl
@[simp] theorem State.accept_cmd : (s.accept c r).cmd = c := rfl
@[simp] theorem State.accept_rsp : (s.accept c r).rsp = Response.none := rfl
@[simp] theorem State.accept_env : (s.accept c r).env = { s.env with offers := r } := rfl
@[simp] theorem State.accept_draws : (s.accept c r).draws = s.draws := rfl
@[simp] theorem State.accept_tgt : (s.accept c r).tgt = s.tgt := rfl
@[simp] theorem State.accept_base : (s.accept c r).base = s.base := rfl
@[simp] theorem State.accept_fnd : (s.accept c r).fnd = s.fnd := rfl
@[simp] theorem State.accept_rslt : (s.accept c r).rslt = s.rslt := rfl
@[simp] theorem State.accept_opa : (s.accept c r).opa = s.opa := rfl
@[simp] theorem State.accept_res : (s.accept c r).res = s.res := rfl

end

section
variable (s : State) (e : Env)

@[simp] theorem State.withEnv_tgtlo : (s.withEnv e).tgtlo = s.tgtlo := rfl
@[simp] theorem State.withEnv_tgthi : (s.withEnv e).tgthi = s.tgthi := rfl
@[simp] theorem State.withEnv_baselo : (s.withEnv e).baselo = s.baselo := rfl
@[simp] theorem State.withEnv_basehi : (s.withEnv e).basehi = s.basehi := rfl
@[simp] theorem State.withEnv_lanes : (s.withEnv e).lanes = s.lanes := rfl
@[simp] theorem State.withEnv_quota : (s.withEnv e).quota = s.quota := rfl
@[simp] theorem State.withEnv_flag : (s.withEnv e).flag = s.flag := rfl
@[simp] theorem State.withEnv_fndlo : (s.withEnv e).fndlo = s.fndlo := rfl
@[simp] theorem State.withEnv_fndhi : (s.withEnv e).fndhi = s.fndhi := rfl
@[simp] theorem State.withEnv_total : (s.withEnv e).total = s.total := rfl
@[simp] theorem State.withEnv_rsltlo : (s.withEnv e).rsltlo = s.rsltlo := rfl
@[simp] theorem State.withEnv_rslthi : (s.withEnv e).rslthi = s.rslthi := rfl
@[simp] theorem State.withEnv_pstate : (s.withEnv e).pstate = s.pstate := rfl
@[simp] theorem State.withEnv_fcode : (s.withEnv e).fcode = s.fcode := rfl
@[simp] theorem State.withEnv_finfo : (s.withEnv e).finfo = s.finfo := rfl
@[simp] theorem State.withEnv_opalo : (s.withEnv e).opalo = s.opalo := rfl
@[simp] theorem State.withEnv_opahi : (s.withEnv e).opahi = s.opahi := rfl
@[simp] theorem State.withEnv_opd : (s.withEnv e).opd = s.opd := rfl
@[simp] theorem State.withEnv_opx : (s.withEnv e).opx = s.opx := rfl
@[simp] theorem State.withEnv_opq : (s.withEnv e).opq = s.opq := rfl
@[simp] theorem State.withEnv_reslo : (s.withEnv e).reslo = s.reslo := rfl
@[simp] theorem State.withEnv_reshi : (s.withEnv e).reshi = s.reshi := rfl
@[simp] theorem State.withEnv_uflags : (s.withEnv e).uflags = s.uflags := rfl
@[simp] theorem State.withEnv_ctx : (s.withEnv e).ctx = s.ctx := rfl
@[simp] theorem State.withEnv_syncPending : (s.withEnv e).syncPending = s.syncPending := rfl
@[simp] theorem State.withEnv_rst : (s.withEnv e).rst = s.rst := rfl
@[simp] theorem State.withEnv_cmd : (s.withEnv e).cmd = s.cmd := rfl
@[simp] theorem State.withEnv_rsp : (s.withEnv e).rsp = s.rsp := rfl
@[simp] theorem State.withEnv_env : (s.withEnv e).env = e := rfl
@[simp] theorem State.withEnv_draws : (s.withEnv e).draws = s.draws := rfl
@[simp] theorem State.withEnv_tgt : (s.withEnv e).tgt = s.tgt := rfl
@[simp] theorem State.withEnv_base : (s.withEnv e).base = s.base := rfl
@[simp] theorem State.withEnv_fnd : (s.withEnv e).fnd = s.fnd := rfl
@[simp] theorem State.withEnv_rslt : (s.withEnv e).rslt = s.rslt := rfl
@[simp] theorem State.withEnv_opa : (s.withEnv e).opa = s.opa := rfl
@[simp] theorem State.withEnv_res : (s.withEnv e).res = s.res := rfl

end

section
variable (s : State) (level : Bool)

@[simp] theorem State.resetBlock_tgtlo : (s.resetBlock level).tgtlo = State.reset.tgtlo := rfl
@[simp] theorem State.resetBlock_tgthi : (s.resetBlock level).tgthi = State.reset.tgthi := rfl
@[simp] theorem State.resetBlock_baselo : (s.resetBlock level).baselo = State.reset.baselo := rfl
@[simp] theorem State.resetBlock_basehi : (s.resetBlock level).basehi = State.reset.basehi := rfl
@[simp] theorem State.resetBlock_lanes : (s.resetBlock level).lanes = State.reset.lanes := rfl
@[simp] theorem State.resetBlock_quota : (s.resetBlock level).quota = State.reset.quota := rfl
@[simp] theorem State.resetBlock_flag : (s.resetBlock level).flag = State.reset.flag := rfl
@[simp] theorem State.resetBlock_fndlo : (s.resetBlock level).fndlo = State.reset.fndlo := rfl
@[simp] theorem State.resetBlock_fndhi : (s.resetBlock level).fndhi = State.reset.fndhi := rfl
@[simp] theorem State.resetBlock_total : (s.resetBlock level).total = State.reset.total := rfl
@[simp] theorem State.resetBlock_rsltlo : (s.resetBlock level).rsltlo = State.reset.rsltlo := rfl
@[simp] theorem State.resetBlock_rslthi : (s.resetBlock level).rslthi = State.reset.rslthi := rfl
@[simp] theorem State.resetBlock_pstate : (s.resetBlock level).pstate = State.reset.pstate := rfl
@[simp] theorem State.resetBlock_fcode : (s.resetBlock level).fcode = State.reset.fcode := rfl
@[simp] theorem State.resetBlock_finfo : (s.resetBlock level).finfo = State.reset.finfo := rfl
@[simp] theorem State.resetBlock_opalo : (s.resetBlock level).opalo = State.reset.opalo := rfl
@[simp] theorem State.resetBlock_opahi : (s.resetBlock level).opahi = State.reset.opahi := rfl
@[simp] theorem State.resetBlock_opd : (s.resetBlock level).opd = State.reset.opd := rfl
@[simp] theorem State.resetBlock_opx : (s.resetBlock level).opx = State.reset.opx := rfl
@[simp] theorem State.resetBlock_opq : (s.resetBlock level).opq = State.reset.opq := rfl
@[simp] theorem State.resetBlock_reslo : (s.resetBlock level).reslo = State.reset.reslo := rfl
@[simp] theorem State.resetBlock_reshi : (s.resetBlock level).reshi = State.reset.reshi := rfl
@[simp] theorem State.resetBlock_uflags : (s.resetBlock level).uflags = State.reset.uflags := rfl
@[simp] theorem State.resetBlock_ctx : (s.resetBlock level).ctx = State.reset.ctx := rfl
@[simp] theorem State.resetBlock_syncPending : (s.resetBlock level).syncPending = State.reset.syncPending := rfl
@[simp] theorem State.resetBlock_rst : (s.resetBlock level).rst = level := rfl
@[simp] theorem State.resetBlock_cmd : (s.resetBlock level).cmd = State.reset.cmd := rfl
@[simp] theorem State.resetBlock_rsp : (s.resetBlock level).rsp = State.reset.rsp := rfl
@[simp] theorem State.resetBlock_env : (s.resetBlock level).env = s.env := rfl
@[simp] theorem State.resetBlock_draws : (s.resetBlock level).draws = s.draws := rfl

end

end Sys2Proof.Machine
end

