-- ==== Sys2Proof/Laws/Ops.lean ====
section
/-! SUPPORT. For each shared operation, once, everything it can do: register numbers and register access,
the admission table, fault entry, a lane's step, and what a turn comes to. -/

namespace Sys2Proof

@[simp] theorem Reg.ofNum_num (r : Reg) : Reg.ofNum r.num = some r := by cases r <;> decide

theorem Reg.num_of_ofNum {n : RegNum} {r : Reg} (h : Reg.ofNum n = some r) : r.num = n := by
  have := List.find?_some h
  simpa using this

@[simp] theorem Phase.ofCode_code (p : Phase) : Phase.ofCode p.code = some p := by cases p <;> decide

@[simp] theorem decodePhase_code (p : Phase) : decodePhase p.code = phaseInstr p := by
  simp [decodePhase]

namespace Machine

theorem Config_one_le_maxLanes : 1 ≤ Config.maxLanes := by simp [Config.maxLanes]

theorem Config_maxLanes_lt : Config.maxLanes < 2 ^ 64 := by
  have := Config.maxLanesWord.isLt
  simp only [Config.maxLanes]
  omega

theorem State.launchLegal_iff (s : State) :
    s.launchLegal = true ↔ s.lanes.toNat ≠ 0 ∧ s.lanes.toNat ≤ Config.maxLanes ∧ s.quota.toNat ≠ 0 ∧
      s.lanes.toNat * s.quota.toNat < 2 ^ 64 := by
  simp [State.launchLegal]

/-- The batch size of a legal configuration is the mathematical product. -/
theorem State.batchSize_toNat {s : State} (h : s.launchLegal = true) :
    s.batchSize.toNat = s.lanes.toNat * s.quota.toNat := by
  have := (s.launchLegal_iff.mp h).2.2.2
  simp only [State.batchSize, BitVec.toNat_mul]
  exact Nat.mod_eq_of_lt this

theorem State.allReturned_iff (s : State) :
    s.allReturned = true ↔ ∀ (i : Nat) (l : Lane), s.ctx[i]? = some l → l.phase = .ret := by
  simp only [State.allReturned, List.all_eq_true, beq_iff_eq]
  constructor
  · intro h i l hl
    exact h l (List.mem_of_getElem? hl)
  · intro h l hl
    obtain ⟨i, hi⟩ := List.getElem?_of_mem hl
    exact h i l hi

/-- A register with a write right reads the value written. -/
theorem State.readReg_writeReg_same {s : State} {r : Reg} {v : Word} (h : regAccess r ≠ .ro) :
    (s.writeReg r v).readReg r = v := by
  cases r <;> first | rfl | exact absurd rfl h

/-- Every other register reads as before. -/
theorem State.readReg_writeReg_other {s : State} {r q : Reg} {v : Word} (h : q ≠ r) :
    (s.writeReg r v).readReg q = s.readReg q := by
  cases r <;> first | rfl | (cases q <;> first | rfl | exact absurd rfl h)

/-! What no `WRR` writes. -/

section
variable (s : State) (r : Reg) (v : Word)

@[simp] theorem State.writeReg_baselo : (s.writeReg r v).baselo = s.baselo := by cases r <;> rfl
@[simp] theorem State.writeReg_basehi : (s.writeReg r v).basehi = s.basehi := by cases r <;> rfl
@[simp] theorem State.writeReg_flag : (s.writeReg r v).flag = s.flag := by cases r <;> rfl
@[simp] theorem State.writeReg_fndlo : (s.writeReg r v).fndlo = s.fndlo := by cases r <;> rfl
@[simp] theorem State.writeReg_fndhi : (s.writeReg r v).fndhi = s.fndhi := by cases r <;> rfl
@[simp] theorem State.writeReg_total : (s.writeReg r v).total = s.total := by cases r <;> rfl
@[simp] theorem State.writeReg_rsltlo : (s.writeReg r v).rsltlo = s.rsltlo := by cases r <;> rfl
@[simp] theorem State.writeReg_rslthi : (s.writeReg r v).rslthi = s.rslthi := by cases r <;> rfl
@[simp] theorem State.writeReg_pstate : (s.writeReg r v).pstate = s.pstate := by cases r <;> rfl
@[simp] theorem State.writeReg_fcode : (s.writeReg r v).fcode = s.fcode := by cases r <;> rfl
@[simp] theorem State.writeReg_finfo : (s.writeReg r v).finfo = s.finfo := by cases r <;> rfl
@[simp] theorem State.writeReg_reslo : (s.writeReg r v).reslo = s.reslo := by cases r <;> rfl
@[simp] theorem State.writeReg_reshi : (s.writeReg r v).reshi = s.reshi := by cases r <;> rfl
@[simp] theorem State.writeReg_uflags : (s.writeReg r v).uflags = s.uflags := by cases r <;> rfl
@[simp] theorem State.writeReg_ctx : (s.writeReg r v).ctx = s.ctx := by cases r <;> rfl
@[simp] theorem State.writeReg_syncPending : (s.writeReg r v).syncPending = s.syncPending := by cases r <;> rfl
@[simp] theorem State.writeReg_rst : (s.writeReg r v).rst = s.rst := by cases r <;> rfl
@[simp] theorem State.writeReg_cmd : (s.writeReg r v).cmd = s.cmd := by cases r <;> rfl
@[simp] theorem State.writeReg_rsp : (s.writeReg r v).rsp = s.rsp := by cases r <;> rfl
@[simp] theorem State.writeReg_env : (s.writeReg r v).env = s.env := by cases r <;> rfl
@[simp] theorem State.writeReg_draws : (s.writeReg r v).draws = s.draws := by cases r <;> rfl

end

/-- The contexts that `LAUNCH` creates: one for each index below `LANES`, each fresh. -/
theorem State.createLanes_getElem? (s : State) (i : Nat) (l : Lane) :
    s.createLanes.ctx[i]? = some l ↔ i < s.lanes.toNat ∧ l = freshLane s.draws i := by
  rw [State.createLanes_ctx, List.getElem?_map]
  by_cases h : i < s.lanes.toNat
  · rw [List.getElem?_range h]
    simp [h, eq_comm]
  · rw [List.getElem?_eq_none (by simpa using h)]
    simp [h]

/-- What the admission table can make of a command's effect. -/
theorem State.whenAdmitted_cases (s : State) (row : CommandRow) (effect : State) :
    ((admission row s.pstate = .ok ∨ admission row s.pstate = .held) ∧ s.whenAdmitted row effect = effect) ∨
    (admission row s.pstate = .protocol ∧ s.whenAdmitted row effect = s.raise .protocol) ∨
    (admission row s.pstate = .refused ∧ s.whenAdmitted row effect = s.refuse) := by
  unfold State.whenAdmitted
  split <;> simp_all

section
variable (s : State) (c : FaultCode)

@[simp] theorem State.raise_pstate : (s.raise c).pstate = .fault := rfl
@[simp] theorem State.raise_fcode : (s.raise c).fcode = c := rfl
@[simp] theorem State.raise_finfo : (s.raise c).finfo = s.cmd.word := rfl
@[simp] theorem State.raise_syncPending : (s.raise c).syncPending = false := rfl
@[simp] theorem State.raise_rsp : (s.raise c).rsp = { valid := true, err := true, rdata := 0 } := rfl

/-- Outside `Running` fault entry writes FCODE, FINFO, `pstate` and the response, and nothing else. -/
theorem State.raise_of_not_running (h : s.pstate ≠ .running) :
    s.raise c = { s with fcode := c, finfo := s.cmd.word, pstate := .fault }.respond true 0 := by
  simp [State.raise, State.abandonBatch, h]

/-- In `Running` it also abandons the batch. -/
theorem State.raise_of_running (h : s.pstate = .running) :
    s.raise c =
      { s with
        fcode := c, finfo := s.cmd.word, pstate := .fault, ctx := [], draws := s.draws + 1
        flag := Config.abandonedFlag s.draws, fndlo := Config.abandonedFndlo s.draws
        fndhi := Config.abandonedFndhi s.draws }.respond true 0 := by
  simp [State.raise, State.abandonBatch, h]

end

section
variable (s : State)

theorem State.turnLane_eq_some {l : Lane} :
    s.turnLane = some l ↔ s.pstate = .running ∧ s.ctx[s.env.lane]? = some l := by
  unfold State.turnLane
  split <;> simp_all

/-- A lane's step that has a successor is one of the turn's lane, from the phase of that name. -/
theorem State.laneStep_eq_next {p : Phase} {effect : Lane → State} {t : State} :
    s.laneStep p effect = .next t ↔
      ∃ l, s.pstate = .running ∧ s.ctx[s.env.lane]? = some l ∧ l.phase = p ∧ effect l = t := by
  unfold State.laneStep
  constructor
  · intro h
    split at h
    · cases h
    · next l hl =>
      split at h
      · next hp =>
        have := s.turnLane_eq_some.mp hl
        exact ⟨l, this.1, this.2, hp, by simpa using h⟩
      · cases h
  · rintro ⟨l, hr, hl, hp, ht⟩
    rw [s.turnLane_eq_some.mpr ⟨hr, hl⟩]
    simp [hp, ht]

/-- Setting the turn's lane changes that entry and no other. -/
theorem State.setLane_getElem? (l : Lane) (i : Nat) :
    (s.setLane l).ctx[i]? =
      if s.env.lane = i then (if i < s.ctx.length then some l else none) else s.ctx[i]? := by
  simp only [State.setLane_ctx, List.getElem?_set]
  split <;> simp_all

end

/-- What the command port's turn comes to. -/
theorem fetchHost_cases (s : State) :
    (s.rst = true ∧ fetchHost s = .settled s) ∨
    (s.rst = false ∧ s.syncPending = true ∧ fetchHost s = .run .sync s) ∨
    (s.rst = false ∧ s.syncPending = false ∧ s.env.offers = [] ∧ fetchHost s = .settled s) ∨
    (∃ c rest i, s.rst = false ∧ s.syncPending = false ∧ s.env.offers = c :: rest ∧
      decodeCommand c.word = .ok i ∧ fetchHost s = .run i (s.accept c rest)) ∨
    (∃ c rest e, s.rst = false ∧ s.syncPending = false ∧ s.env.offers = c :: rest ∧
      decodeCommand c.word = .error e ∧ fetchHost s = .settled (s.accept c rest).illegalCommand) := by
  unfold fetchHost
  by_cases hr : s.rst = true
  · simp [hr]
  · by_cases hp : s.syncPending = true
    · simp [hr, hp]
    · cases ho : s.env.offers with
      | nil => simp [hr, hp]
      | cons c rest =>
        cases hd : decodeCommand c.word with
        | ok i =>
          refine .inr (.inr (.inr (.inl ⟨c, rest, i, by simp_all, by simp_all, rfl, hd, ?_⟩)))
          simp [hr, hp, hd]
        | error e =>
          refine .inr (.inr (.inr (.inr ⟨c, rest, e, by simp_all, by simp_all, rfl, hd, ?_⟩)))
          simp [hr, hp, hd]

/-- What a lane's turn comes to. -/
theorem fetchLane_cases (s : State) :
    ((s.rst = true ∨ s.turnLane = none ∨ ∃ l, s.turnLane = some l ∧ l.phase = .ret) ∧
      fetchLane s = .settled s) ∨
    (∃ l i, s.rst = false ∧ s.turnLane = some l ∧ phaseInstr l.phase = .ok i ∧ fetchLane s = .run i s) := by
  unfold fetchLane
  by_cases hr : s.rst = true
  · simp [hr]
  · cases hl : s.turnLane with
    | none => simp [hr]
    | some l =>
      cases hp : l.phase <;> simp [hr, hp, phaseInstr]

/-- `step` is what `fetch` comes to: the instruction of the turn, or the settled state. -/
theorem step_eq (s : State) :
    (∃ i t, fetch s = .run i t ∧ step s = exec i t) ∨ (∃ t, fetch s = .settled t ∧ step s = .next t) := by
  unfold step
  cases fetch s with
  | run i t => exact .inl ⟨i, t, rfl, rfl⟩
  | settled t => exact .inr ⟨t, rfl, rfl⟩

end Machine

end Sys2Proof
end

