-- ==== Sys2Proof/Laws/PerInstr.lean ====
section
/-! SUPPORT. Statements about every instruction as syntax, one lemma for each constructor: its code passes the
checks of WellFormed.lean, so no instruction encodes to an illegal word or to a phase without a
micro-operation. -/

namespace Sys2Proof.Laws

/-- A joined word as a number, each field at its place (R61). -/
theorem joinWord_toNat (f : CmdFields) :
    (joinWord f).toNat = f.op.toNat * 2 ^ 24 + f.reg.toNat * 2 ^ 16 + f.zero.toNat := by
  rw [joinWord, BitVec.toNat_append, ← Nat.shiftLeft_add_eq_or_of_lt f.zero.isLt, BitVec.toNat_append,
    ← Nat.shiftLeft_add_eq_or_of_lt f.reg.isLt, Nat.shiftLeft_eq, Nat.shiftLeft_eq]
  omega

/-- The fields of a joined word are the fields it was joined from (R61). -/
theorem splitWord_joinWord (f : CmdFields) : splitWord (joinWord f) = f := by
  have h := joinWord_toNat f
  obtain ⟨op, reg, zero⟩ := f
  have h1 := op.isLt
  have h2 := reg.isLt
  have h3 := zero.isLt
  simp only [splitWord, CmdFields.mk.injEq]
  refine ⟨?_, ?_, ?_⟩ <;> apply BitVec.eq_of_toNat_eq <;>
    simp only [BitVec.extractLsb'_toNat, Nat.shiftRight_eq_div_pow, h] <;> omega

namespace EncodesWellFormed

/-- The code of `i` is a well-formed command word (R66) or the code of a phase with a micro-operation (R68). -/
def Statement (i : Instr) : Prop :=
  match encode i with
  | .command w => (splitWord w).wellFormed = true
  | .phase c => ∃ p, Phase.ofCode c = some p ∧ p.hasOperation = true

theorem nop : Statement .nop := by simp only [Statement, encode, commandWord, splitWord_joinWord]; decide
theorem wrr (reg : RegNum) : Statement (.wrr reg) := by
  simp [Statement, encode, commandWord, splitWord_joinWord, CmdFields.wellFormed, CmdFields.zeroClear,
    CmdFields.opListed, CmdFields.regClear, listedOp, usesReg]
theorem rdr (reg : RegNum) : Statement (.rdr reg) := by
  simp [Statement, encode, commandWord, splitWord_joinWord, CmdFields.wellFormed, CmdFields.zeroClear,
    CmdFields.opListed, CmdFields.regClear, listedOp, usesReg]
theorem wadd : Statement .wadd := by simp only [Statement, encode, commandWord, splitWord_joinWord]; decide
theorem lstart : Statement .lstart := by simp only [Statement, encode, commandWord, splitWord_joinWord]; decide
theorem bmatch : Statement .bmatch := by simp only [Statement, encode, commandWord, splitWord_joinWord]; decide
theorem breset : Statement .breset := by simp only [Statement, encode, commandWord, splitWord_joinWord]; decide
theorem launch : Statement .launch := by simp only [Statement, encode, commandWord, splitWord_joinWord]; decide
theorem sync : Statement .sync := by simp only [Statement, encode, commandWord, splitWord_joinWord]; decide
theorem next : Statement .next := by simp only [Statement, encode, commandWord, splitWord_joinWord]; decide
theorem lChk0 : Statement .lChk0 := ⟨.chk0, by decide, by decide⟩
theorem lStart : Statement .lStart := ⟨.start, by decide, by decide⟩
theorem lLoop : Statement .lLoop := ⟨.loop, by decide, by decide⟩
theorem lChk : Statement .lChk := ⟨.chk, by decide, by decide⟩
theorem lCmp : Statement .lCmp := ⟨.cmp, by decide, by decide⟩
theorem lCas : Statement .lCas := ⟨.cas, by decide, by decide⟩
theorem lWrlo : Statement .lWrlo := ⟨.wrlo, by decide, by decide⟩
theorem lWrhi : Statement .lWrhi := ⟨.wrhi, by decide, by decide⟩
theorem lInc : Statement .lInc := ⟨.inc, by decide, by decide⟩

end EncodesWellFormed

end Sys2Proof.Laws
end

