-- ==== Sys2Proof/Laws/Safety.lean ====
section
/-! SUPPORT. The invariant reads only some fields: states that agree on those agree on it. Every update that
writes none of them keeps it by these lemmas. -/

namespace Sys2Proof.Safety

open Sys2Proof.Machine

theorem LaneOk.congr {s t : State} {i : Nat} {l : Lane} (h : LaneOk s i l) (hb : t.base = s.base) (ht : t.tgt = s.tgt)
    (hq : t.quota = s.quota) (hf : t.flag = s.flag) (hl : t.fndlo = s.fndlo) :
    LaneOk t i l := by
  have htl : t.tgtlo = s.tgtlo := congrArg Wide.lo ht
  have hc : ∀ i k, candidate t i k = candidate s i k := fun i k => by simp only [candidate, hb, hq]
  exact
    { index := h.index
      quota := by simpa only [hq] using h.quota
      cand := by simpa only [hq, hc] using h.cand
      rem := h.rem
      found := by simpa only [ht] using h.found
      claimed := by simpa only [hf] using h.claimed
      low := by simpa only [hl, htl] using h.low
      missed := by simpa only [hf, hq, hc, ht] using h.missed }

theorem InBatch.congr {s t : State} (hb : t.base = s.base) (ht : t.tgt = s.tgt) (hn : t.lanes = s.lanes)
    (hq : t.quota = s.quota) : InBatch t ↔ InBatch s := by
  simp only [InBatch, hb, ht, hn, hq]

theorem BatchOk.congr {s t : State} (h : BatchOk s) (hb : t.base = s.base) (ht : t.tgt = s.tgt) (hn : t.lanes = s.lanes)
    (hq : t.quota = s.quota) (hf : t.flag = s.flag) (hfnd : t.fnd = s.fnd) (hc : t.ctx = s.ctx) : BatchOk t :=
  { legal := by have := h.legal; simp only [State.launchLegal, hn, hq] at this ⊢; exact this
    length := by rw [hc, hn]; exact h.length
    lane := fun i l hl => (h.lane i l (hc ▸ hl)).congr hb ht hq hf (congrArg Wide.lo hfnd)
    writer := by have := h.writer; simp only [OneWriter, hc] at this ⊢; exact this
    written := by have := h.written; simpa only [hf, hc, hfnd, ht] using this
    inBatch := fun hft => (InBatch.congr hb ht hn hq).mpr (h.inBatch (hf ▸ hft)) }

theorem PhaseOk.congr {s t : State} (h : PhaseOk s) (hp : t.pstate = s.pstate) (hb : t.base = s.base) (ht : t.tgt = s.tgt)
    (hn : t.lanes = s.lanes) (hq : t.quota = s.quota) (hf : t.flag = s.flag) (hfnd : t.fnd = s.fnd)
    (hr : t.rslt = s.rslt) (hc : t.ctx = s.ctx) : PhaseOk t := by
  have hbl : t.baselo = s.baselo := congrArg Wide.lo hb
  have hbh : t.basehi = s.basehi := congrArg Wide.hi hb
  have hrl : t.rsltlo = s.rsltlo := congrArg Wide.lo hr
  have hrh : t.rslthi = s.rslthi := congrArg Wide.hi hr
  have hlegal : t.launchLegal = s.launchLegal := by simp only [State.launchLegal, hn, hq]
  unfold PhaseOk at h ⊢
  rw [hp]
  cases hs : s.pstate <;> simp only [hs] at h ⊢
  · exact ⟨hbl ▸ h.1, hbh ▸ h.2.1, hf ▸ h.2.2.1, hrl ▸ h.2.2.2.1, hrh ▸ h.2.2.2.2⟩
  · exact ⟨by rw [hb, ht]; exact h.1, hf ▸ h.2.1, hrl ▸ h.2.2.1, hrh ▸ h.2.2.2⟩
  · exact ⟨by rw [hb, ht]; exact h.1, hf ▸ h.2.1, hrl ▸ h.2.2.1, hrh ▸ h.2.2.2⟩
  · exact ⟨by rw [hb, ht]; exact h.1, h.2.1.congr hb ht hn hq hf hfnd hc, hrl ▸ h.2.2.1, hrh ▸ h.2.2.2⟩
  · rw [hb, ht, hlegal, hf, hfnd, InBatch.congr hb ht hn hq, hrl, hrh]
    exact h
  · rw [hf, hfnd, ht, hr, InBatch.congr hb ht hn hq]
    exact h

end Sys2Proof.Safety
end

