-- ==== Sys2Proof/Laws/Units.lean ====
section
/-! SUPPORT. The small lemmas of the pure functions: words and pairs as numbers, the carry of the adder, the
comparator's loop. -/

namespace Sys2Proof

theorem Wide.val_lt (a : Wide) : a.val < 2 ^ 128 := by
  have h1 := a.lo.isLt
  have h2 := a.hi.isLt
  simp only [Wide.val]
  omega

theorem Wide.lo_toNat (a : Wide) : a.lo.toNat = a.val % 2 ^ 64 := by
  have h1 := a.lo.isLt
  simp only [Wide.val]
  omega

theorem Wide.hi_toNat (a : Wide) : a.hi.toNat = a.val / 2 ^ 64 := by
  have h1 := a.lo.isLt
  simp only [Wide.val]
  omega

/-- A pair is determined by the number it stands for. -/
theorem Wide.eq_of_val_eq {a b : Wide} (h : a.val = b.val) : a = b := by
  have hlo : a.lo = b.lo := BitVec.eq_of_toNat_eq (by rw [a.lo_toNat, b.lo_toNat, h])
  have hhi : a.hi = b.hi := BitVec.eq_of_toNat_eq (by rw [a.hi_toNat, b.hi_toNat, h])
  cases a; cases b; simp_all

theorem Wide.val_inj {a b : Wide} : a.val = b.val ↔ a = b :=
  ⟨Wide.eq_of_val_eq, fun h => h ▸ rfl⟩

namespace Machine

theorem carries_iff {w : Nat} (a d : BitVec w) : carries a d = true ↔ 2 ^ w ≤ a.toNat + d.toNat := by
  simp [carries]

theorem add_lo (a : Wide) (d : Word) : (add a d).1.lo = a.lo + d := rfl

theorem add_hi (a : Wide) (d : Word) :
    (add a d).1.hi = if carries a.lo d = true then a.hi + 1 else a.hi := rfl

theorem add_overflow (a : Wide) (d : Word) : (add a d).2 = overflows a.lo a.hi d := rfl

/-- The comparator's loop answers `true` exactly when it meets no difference. -/
theorem matchFrom_fst (c t : Wide) (ks : List Nat) :
    (matchFrom c t ks).1 = true ↔ ∀ k ∈ ks, wideByte c k = wideByte t k := by
  induction ks with
  | nil => simp [matchFrom]
  | cons k rest ih =>
    by_cases h : wideByte c k = wideByte t k
    · simp [matchFrom, h, ih]
    · simp [matchFrom, h]

end Machine

end Sys2Proof
end

