-- ==== Sys2Proof/Machine/Assembler.lean ====
section
/-! DEFINITION. Host programs as the spec writes them (30_encoding.md rules R72, R73): one command a line, as
abstract syntax and as text, with the pseudo-instructions and the program of 44_host_orchestrator.md rule
R138. No step of the block uses this file. -/

namespace Sys2Proof.Machine

/-- A line of a host program (R72): a register is written by name, so only the 23 implemented ones can
stand in a line. -/
inductive AsmLine where
  | nop
  | wrr (reg : Reg) (value : Word)
  | rdr (reg : Reg)
  | wadd
  | lstart
  | bmatch
  | breset
  | launch
  | sync
  | next
  deriving DecidableEq, Repr

/-- The host command of a line: `cmd_wdata` is the value of a `WRR` and 0 for every other line (R72). -/
def AsmLine.parts : AsmLine → Instr × Word
  | .nop => (.nop, 0)
  | .wrr r v => (.wrr r.num, v)
  | .rdr r => (.rdr r.num, 0)
  | .wadd => (.wadd, 0)
  | .lstart => (.lstart, 0)
  | .bmatch => (.bmatch, 0)
  | .breset => (.breset, 0)
  | .launch => (.launch, 0)
  | .sync => (.sync, 0)
  | .next => (.next, 0)

/-- The bits of a code as a 32-bit word; a line of a host program always encodes to a command word. -/
def codeWord : Code → CmdWord
  | .command w => w
  | .phase c => c.setWidth 32

/-- The `cmd_word : cmd_wdata` a line assembles to (R72). -/
def assemble (l : AsmLine) : HostCommand :=
  { word := codeWord (encode l.parts.1), wdata := l.parts.2 }

/-- The pseudo-instructions (R73). -/
inductive Pseudo where
  | wrw (loReg : Reg) (value : BitVec 128)
  | rdw (loReg : Reg)
  | batch
  deriving DecidableEq, Repr

/-- The register numbered one above, the high half of a pair (R73). -/
def hiReg (r : Reg) : Option Reg := Reg.ofNum (r.num + 1)

/-- The expansion of a pseudo-instruction; `none` where R73 does not allow its register. -/
def expand : Pseudo → Option (List AsmLine)
  | .wrw r v =>
    if r = .tgtlo ∨ r = .opalo then
      (hiReg r).map (fun h => [.wrr r (v.extractLsb' 0 64), .wrr h (v.extractLsb' 64 64)])
    else none
  | .rdw r =>
    if r = .tgtlo ∨ r = .baselo ∨ r = .fndlo ∨ r = .rsltlo ∨ r = .opalo ∨ r = .reslo then
      (hiReg r).map (fun h => [.rdr r, .rdr h])
    else none
  | .batch => some [.breset, .launch, .sync, .next]

/-- The start-up of a run in `Config`: the target, the lane count and the quota (R138, R203, R204). -/
def startUp (target : Wide) (laneCount quotaPerLane : Word) : List AsmLine :=
  [.wrr .tgtlo target.lo, .wrr .tgthi target.hi, .wrr .lanes laneCount, .wrr .quota quotaPerLane]

/-- One iteration of the orchestrator loop, with the read of STATUS that ends it (R138). -/
def iteration : List AsmLine := [.breset, .launch, .sync, .next, .rdr .status]

/-- The read of the 16-byte result after `DoneFound` (R138). -/
def readResult : List AsmLine := [.rdr .rsltlo, .rdr .rslthi]

/-! ## The text of a line (R72) -/

/-- The names of R63. -/
def regName : Reg → List Char
  | .tgtlo => ['T', 'G', 'T', 'L', 'O']
  | .tgthi => ['T', 'G', 'T', 'H', 'I']
  | .baselo => ['B', 'A', 'S', 'E', 'L', 'O']
  | .basehi => ['B', 'A', 'S', 'E', 'H', 'I']
  | .lanes => ['L', 'A', 'N', 'E', 'S']
  | .quota => ['Q', 'U', 'O', 'T', 'A']
  | .flag => ['F', 'L', 'A', 'G']
  | .fndlo => ['F', 'N', 'D', 'L', 'O']
  | .fndhi => ['F', 'N', 'D', 'H', 'I']
  | .total => ['T', 'O', 'T', 'A', 'L']
  | .rsltlo => ['R', 'S', 'L', 'T', 'L', 'O']
  | .rslthi => ['R', 'S', 'L', 'T', 'H', 'I']
  | .status => ['S', 'T', 'A', 'T', 'U', 'S']
  | .fcode => ['F', 'C', 'O', 'D', 'E']
  | .finfo => ['F', 'I', 'N', 'F', 'O']
  | .opalo => ['O', 'P', 'A', 'L', 'O']
  | .opahi => ['O', 'P', 'A', 'H', 'I']
  | .opd => ['O', 'P', 'D']
  | .opx => ['O', 'P', 'X']
  | .opq => ['O', 'P', 'Q']
  | .reslo => ['R', 'E', 'S', 'L', 'O']
  | .reshi => ['R', 'E', 'S', 'H', 'I']
  | .uflags => ['U', 'F', 'L', 'A', 'G', 'S']

/-- The register with a given name. -/
def regOfName (n : List Char) : Option Reg := Reg.all.find? (fun r => regName r == n)

/-- The mnemonics that stand alone on a line, with the command each writes. -/
def bareCommands : List (List Char × AsmLine) :=
  [(['N', 'O', 'P'], .nop), (['W', 'A', 'D', 'D'], .wadd),
    (['L', 'S', 'T', 'A', 'R', 'T'], .lstart), (['B', 'M', 'A', 'T', 'C', 'H'], .bmatch),
    (['B', 'R', 'E', 'S', 'E', 'T'], .breset), (['L', 'A', 'U', 'N', 'C', 'H'], .launch),
    (['S', 'Y', 'N', 'C'], .sync), (['N', 'E', 'X', 'T'], .next)]

/-- A token of a line: a word (mnemonic, register name or number), a comma or a hash sign. -/
inductive Token where
  | word (cs : List Char)
  | comma
  | hash
  deriving DecidableEq, Repr

/-- The characters of a word. -/
def isWordChar (c : Char) : Bool := c.isAlphanum || c == '_'

/-- What a character between words stands for; `none` for a character of no line. -/
def separator (c : Char) : Option (List Token) :=
  if c == ' ' || c == '\t' then some []
  else if c == ',' then some [.comma]
  else if c == '#' then some [.hash]
  else none

/-- The token of a word read so far, if one was begun. -/
def wordToken (cs : List Char) : List Token := if cs.isEmpty then [] else [.word cs]

/-- The tokens of a line, `cur` being the word under way; a `;` begins the comment, which ends the line. -/
def tokens : List Char → List Char → Option (List Token)
  | [], cur => some (wordToken cur)
  | c :: cs, cur =>
    if c == ';' then some (wordToken cur)
    else if isWordChar c then tokens cs (cur ++ [c])
    else
      match separator c, tokens cs [] with
      | some ts, some rest => some (wordToken cur ++ ts ++ rest)
      | _, _ => none

/-- The value of a digit in a base up to 16. -/
def digitValue (base : Nat) (c : Char) : Option Nat :=
  let n := c.toNat
  let v :=
    if 48 ≤ n ∧ n ≤ 57 then n - 48
    else if 65 ≤ n ∧ n ≤ 70 then n - 55
    else if 97 ≤ n ∧ n ≤ 102 then n - 87
    else base
  if v < base then some v else none

/-- The number that digits stand for; one `_` may stand between two digits (R72). -/
def digitsValue (base : Nat) : List Char → Nat → Bool → Option Nat
  | [], acc, afterDigit => if afterDigit then some acc else none
  | c :: cs, acc, afterDigit =>
    if c == '_' then (if afterDigit then digitsValue base cs acc false else none)
    else
      match digitValue base c with
      | some d => digitsValue base cs (acc * base + d) true
      | none => none

/-- `number` of R72: decimal digits, or `0x` and hexadecimal digits, below a bound. -/
def numberBelow (bound : Nat) (cs : List Char) : Option Nat :=
  let n :=
    match cs with
    | '0' :: 'x' :: ds => digitsValue 16 ds 0 false
    | ds => digitsValue 10 ds 0 false
  n.filter (fun v => v < bound)

/-- What a line of text holds: nothing but a comment, a command (R72) or a pseudo-instruction (R73). -/
inductive SourceLine where
  | empty
  | command (l : AsmLine)
  | pseudo (p : Pseudo)
  deriving DecidableEq, Repr

/-- The line that tokens form (R72, R73); `none` where they form none. -/
def lineOfTokens : List Token → Option SourceLine
  | [] => some .empty
  | [.word m] =>
    if m == ['B', 'A', 'T', 'C', 'H'] then some (.pseudo .batch)
    else (bareCommands.find? (fun e => e.1 == m)).map (fun e => .command e.2)
  | [.word m, .word r] =>
    if m == ['R', 'D', 'R'] then (regOfName r).map (fun r => .command (.rdr r))
    else if m == ['R', 'D', 'W'] then (regOfName r).map (fun r => .pseudo (.rdw r))
    else none
  | [.word m, .word r, .comma, .hash, .word n] =>
    match regOfName r with
    | none => none
    | some r =>
      if m == ['W', 'R', 'R'] then
        (numberBelow (2 ^ 64) n).map (fun v => .command (.wrr r (BitVec.ofNat 64 v)))
      else if m == ['W', 'R', 'W'] then
        (numberBelow (2 ^ 128) n).map (fun v => .pseudo (.wrw r (BitVec.ofNat 128 v)))
      else none
  | _ => none

/-- The line a text stands for; `none` where the text is no line of a host program. -/
def parseLine (text : List Char) : Option SourceLine :=
  match tokens text [] with
  | some ts => lineOfTokens ts
  | none => none

/-- The commands of a line, its pseudo-instruction expanded. -/
def SourceLine.commands : SourceLine → Option (List AsmLine)
  | .empty => some []
  | .command l => some [l]
  | .pseudo p => expand p

end Sys2Proof.Machine
end

