-- ==== Sys2Proof/Tests/Slice0.lean ====
section
/-! SUPPORT. The model's own tests. Every expected value is the spec's: the vectors of 95_test_vectors.md are
named by their numbers (A3, S4, B5, L14, H16, F5, ...), the encodings are written out from 30_encoding.md rules R62
and R68. After them, for every statement with hypotheses, a witness that meets the hypotheses, at the ends of
their ranges. -/

namespace Sys2Proof.Tests

open Sys2Proof.Machine Sys2Proof.Safety

/-- What is seen of the next state; `none` where there is none. -/
def seen {α : Type} (o : Host.Outcome State Fault Refusal) (view : State → α) : Option α :=
  match o with
  | .next t => some (view t)
  | .fault _ => none
  | .refused _ => none

/-- The largest word, `M` of 95_test_vectors.md. -/
def top : Word := 0xFFFFFFFFFFFFFFFF#64

/-- The reset state in another protocol state. -/
def at_ (p : PState) : State := { State.reset with pstate := p }

/-- A lane in a phase, with a candidate and a count. -/
def lane (index : Nat) (p : Phase) (lo hi rem : Word) : Lane :=
  { index := BitVec.ofNat 64 index, phase := p, cand := { lo := lo, hi := hi }, rem := rem, won := false }

/-- Section 2.4's state: TGT = 5, BASE = 4, QUOTA = 2, `Running`, and the turn of lane `k`. -/
def batch (lanes : List Lane) (flag stale : Bool) (k : Nat) : State :=
  { at_ .running with
    tgtlo := 5, baselo := 4, lanes := 2, quota := 2, flag := flag, ctx := lanes
    env := { Env.quiet with lane := k, stale := stale } }

/-! ## Ill-formed terms are refused -/

/-- `ZERO != 0` (2.7: 0x00000001). -/
theorem test_zero_field_refused : (splitWord 0x00000001#32).zeroClear = false := by decide

/-- An unassigned `OP` (2.7: 0x03000000). -/
theorem test_opcode_refused : (splitWord 0x03000000#32).opListed = false := by decide

/-- `REG != 0` on an opcode without one (2.7: 0x21040000). -/
theorem test_reg_field_refused : (splitWord 0x21040000#32).regClear = false := by decide

/-- The three checks together refuse each of these and accept `WRR LANES`. -/
theorem test_well_formed :
    [0x00000001#32, 0x03000000#32, 0x21040000#32, 0x01040000#32].map (fun w => (splitWord w).wellFormed) =
      [false, false, false, true] := by decide

/-- RET has no micro-operation (R115). -/
theorem test_ret_refused : Phase.ret.hasOperation = false ∧ Phase.inc.hasOperation = true := by decide

/-! ## Decoding -/

/-- The words of R62 (2.7). -/
theorem test_decode_commands :
    [0x00000000#32, 0x01040000#32, 0x021F0000#32, 0x10000000#32, 0x11000000#32, 0x12000000#32, 0x20000000#32,
      0x21000000#32, 0x22000000#32, 0x23000000#32].map (fun w => (decodeCommand w).toOption) =
    [some .nop, some (.wrr 0x04#8), some (.rdr 0x1F#8), some .wadd, some .lstart, some .bmatch, some .breset,
      some .launch, some .sync, some .next] := by decide

/-- The phase codes of R68, written as the opcode table writes them. -/
theorem test_decode_phases :
    [0b0000#4, 0b0001#4, 0b0010#4, 0b0011#4, 0b0100#4, 0b0101#4, 0b0110#4, 0b0111#4, 0b1000#4].map
      (fun c => (decodePhase c).toOption) =
    [some .lChk0, some .lStart, some .lLoop, some .lChk, some .lCmp, some .lCas, some .lWrlo, some .lWrhi,
      some .lInc] := by decide

/-- An unimplemented register number decodes (2.7: 0x02070000, 0x01FF0000) and names no register (R12). -/
theorem test_decode_unimplemented :
    (decodeCommand 0x02070000#32).toOption = some (.rdr 0x07#8) ∧
    (decodeCommand 0x01FF0000#32).toOption = some (.wrr 0xFF#8) ∧
    Reg.ofNum 0x07#8 = none ∧ Reg.ofNum 0xFF#8 = none ∧ Reg.ofNum 0x1F#8 = some .uflags := by decide

/-- The reject of a word or code. -/
def rejectOf (e : Except Reject Instr) : Option Reject :=
  match e with
  | .ok _ => none
  | .error r => some r

/-- The illegal words of 2.7, by the first test that fails, and the phase codes without a micro-operation. -/
theorem test_decode_rejects :
    [0x00000001#32, 0x00010000#32, 0x02100001#32, 0x21040000#32, 0x03000000#32, 0x13000000#32, 0x24000000#32,
      0x0F000000#32, 0xFF000000#32, 0xFFFFFFFF#32].map (fun w => rejectOf (decodeCommand w)) =
      [some .zeroField, some .regField, some .zeroField, some .regField, some .opcode, some .opcode, some .opcode,
        some .opcode, some .opcode, some .zeroField] ∧
    [0b1001#4, 0b1010#4, 0b1111#4].map (fun c => rejectOf (decodePhase c)) =
      [some .returned, some .noPhase, some .noPhase] := by decide

/-- The table's rows as numbers: a phase code of 4 bits in a byte, and 32-bit words. -/
theorem test_table_words :
    decodeTableWord 32 0x23000000 = some .next ∧ decodeTableWord 8 0x5 = some .lCas ∧
      decodeTableWord 8 0x9 = none ∧ decodeTableWord 32 0x24000000 = none := by decide

/-- A listing line of R72, and R73's expansions. -/
theorem test_assemble :
    assemble (.wrr .lanes 2) = { word := 0x01040000#32, wdata := 2 } ∧
    expand (.wrw .tgtlo 0x00000000000000070000000000000005#128) = some [.wrr .tgtlo 5, .wrr .tgthi 7] ∧
    expand (.rdw .rsltlo) = some [.rdr .rsltlo, .rdr .rslthi] ∧ expand (.rdw .opd) = none ∧
    expand .batch = some [.breset, .launch, .sync, .next] := by decide

/-- Texts of lines (R72): `WRR OPD, #0x1_F ;`, `WRR OPD #1` without its comma, and a name of no register. -/
theorem test_parse :
    parseLine ['W', 'R', 'R', ' ', 'O', 'P', 'D', ',', ' ', '#', '0', 'x', '1', '_', 'F', ' ', ';'] =
      some (.command (.wrr .opd 0x1F)) ∧
    parseLine ['W', 'R', 'R', ' ', 'O', 'P', 'D', ' ', '#', '1'] = none ∧
    parseLine ['R', 'D', 'R', ' ', 'O', 'D', 'P'] = none ∧
    parseLine [' ', 'R', 'D', 'W', ' ', 'R', 'E', 'S', 'L', 'O'] = some (.pseudo (.rdw .reslo)) ∧
    parseLine [] = some .empty := by decide

/-- A number of 2^64 is none of `WRR`'s, and a separator stands between digits only (R72). -/
theorem test_parse_number :
    numberBelow (2 ^ 64) ['1', '8', '4', '4', '6', '7', '4', '4', '0', '7', '3', '7', '0', '9', '5', '5', '1', '6', '1', '5'] =
      some (2 ^ 64 - 1) ∧
    numberBelow (2 ^ 64) ['1', '8', '4', '4', '6', '7', '4', '4', '0', '7', '3', '7', '0', '9', '5', '5', '1', '6', '1', '6'] =
      none ∧
    numberBelow 100 ['9', '_'] = none ∧ numberBelow 100 ['0', 'x'] = none := by decide

/-! ## Register access -/

/-- H18: `NOP` in `Running`. -/
theorem test_nop_H18 :
    seen (exec .nop (batch [lane 0 .inc 4 0 2] false false 0)) (fun t => (t.pstate, t.ctx, t.rsp)) =
      some (.running, [lane 0 .inc 4 0 2], okResponse 0) := by decide

/-- H3: `WRR QUOTA` with the largest value, in `Config`. -/
theorem test_wrr_H3 :
    seen (exec (.wrr 0x05#8) { State.reset with cmd := { word := 0x01050000, wdata := top } })
      (fun t => (t.quota, t.pstate, t.rsp)) = some (top, .config, okResponse 0) := by decide

/-- F5: `WRR TGTLO` in `Idle`. -/
theorem test_wrr_F5 :
    seen (exec (.wrr 0x00#8) { at_ .idle with cmd := { word := 0x01000000, wdata := 9 } })
      (fun t => (t.fcode.code, t.finfo, t.tgtlo, t.pstate)) = some (4#3, 0x01000000#32, 0, .fault) := by decide

/-- H19: `RDR RSLTLO` in `DoneFound`. -/
theorem test_rdr_H19 :
    seen (exec (.rdr 0x0D#8) { at_ .doneFound with rsltlo := 5 }) (fun t => t.rsp) = some (okResponse 5) := by decide

/-- F14: `RDR FCODE` in `Fault`. -/
theorem test_rdr_F14 :
    seen (exec (.rdr 0x11#8) { at_ .fault with fcode := .protocol }) (fun t => t.rsp) = some (okResponse 3) := by
  decide

/-! ## Unit access -/

/-- A8: the largest delta. -/
theorem test_wadd_A8 :
    seen (exec .wadd { State.reset with opalo := 5, opahi := 7, opd := top })
      (fun t => (t.reslo, t.reshi, t.readReg .uflags)) = some (4, 8, 0x2) := by decide

/-- A7: the sum is 2^128 exactly. -/
theorem test_wadd_A7 :
    seen (exec .wadd { State.reset with opalo := 1, opahi := top, opd := top })
      (fun t => (t.reslo, t.reshi, t.readReg .uflags)) = some (0, 0, 0x3) := by decide

/-- S5: the carry into the high half. -/
theorem test_lstart_S5 :
    seen (exec .lstart { State.reset with opalo := 0xFFFFFFFFFFFFFFF0#64, opahi := 7, opx := 3, opq := 8 })
      (fun t => (t.reslo, t.reshi, t.uflags.ptrunc)) = some (8, 8, false) := by decide

/-- S10: the product needs 65 bits. -/
theorem test_lstart_S10 :
    seen (exec .lstart { State.reset with opalo := 0x64, opx := 0x100000001#64, opq := 0x100000000#64 })
      (fun t => (t.reslo, t.reshi, t.uflags.ptrunc)) = some (0x100000064#64, 0, true) := by decide

/-- B4: the first byte of the high word. -/
theorem test_bmatch_B4 :
    seen (exec .bmatch { State.reset with
        tgtlo := 0x0807060504030201#64, tgthi := 0x100F0E0D0C0B0A09#64
        opalo := 0x0807060504030201#64, opahi := 0x100F0E0D0C0B0A08#64 }) (fun t => t.readReg .uflags) =
      some 0x0800#64 := by decide

/-- P3 step 20: a match leaves `OVF` and `CARRY` as they are. -/
theorem test_bmatch_P3 :
    seen (exec .bmatch { State.reset with
        tgtlo := 0x0807060504030201#64, tgthi := 0x100F0E0D0C0B0A09#64
        opalo := 0x0807060504030201#64, opahi := 0x100F0E0D0C0B0A09#64
        uflags := { ovf := true, carry := true, matched := false, ptrunc := false, midx := 9 } })
      (fun t => t.readReg .uflags) = some 0x1007#64 := by decide

/-! ## The batch commands -/

/-- H5, with a batch state to clear. -/
theorem test_breset_H5 :
    seen (exec .breset { at_ .idle with flag := true, fndlo := 1, fndhi := 2 })
      (fun t => (t.flag, t.fndlo, t.fndhi, t.pstate)) = some (false, 0, 0, .armed) := by decide

/-- F4: `BRESET` in `Armed`. -/
theorem test_breset_F4 :
    seen (exec .breset { at_ .armed with cmd := { word := 0x20000000, wdata := 0 } })
      (fun t => (t.fcode.code, t.finfo, t.rsp)) = some (3#3, 0x20000000#32, errResponse) := by decide

/-- H7's state: one lane, the largest quota. -/
def widestBatch : State := { at_ .armed with lanes := 1, quota := top }

theorem widestBatch_legal : widestBatch.launchLegal = true :=
  widestBatch.launchLegal_iff.mpr ⟨by decide, by simpa [widestBatch] using Config_one_le_maxLanes, by decide, by decide⟩

/-- H7: a batch of 2^64 - 1 candidates is legal, whatever MAX_LANES is. -/
theorem test_launch_H7 :
    seen (exec .launch widestBatch) (fun t => (t.pstate, t.ctx.map (fun l => (l.index, l.phase)), t.rsp)) =
      some (.running, [(0, .chk0)], okResponse 0) := by
  have h : exec .launch widestBatch = .next ((widestBatch.createLanes.withPState .running).respond false 0) := by
    simp only [exec, execLaunch, widestBatch_legal]
    rfl
  rw [h]
  rfl

/-- H9: no lane. -/
theorem test_launch_H9 :
    seen (exec .launch { at_ .armed with quota := 4, cmd := { word := 0x21000000, wdata := 0 } })
      (fun t => (t.fcode.code, t.finfo, t.pstate, t.ctx)) = some (5#3, 0x21000000#32, .fault, []) := by
  have h : State.launchLegal { at_ .armed with quota := 4, cmd := { word := 0x21000000, wdata := 0 } } = false := by
    simp [State.launchLegal, at_, State.reset]
  simp only [exec, execLaunch, h]
  rfl

/-- H11: every lane has returned. -/
theorem test_sync_H11 :
    seen (exec .sync (batch [lane 0 .ret 0 0 0, lane 1 .ret 0 0 0] false false 0))
      (fun t => (t.pstate, t.ctx, t.rsp)) = some (.synced, [], okResponse 0) := by decide

/-- H13: held although the flag is claimed. -/
theorem test_sync_H13 :
    seen (exec .sync (batch [lane 0 .wrlo 5 0 1, lane 1 .ret 0 0 0] true false 0))
      (fun t => (t.pstate, t.syncPending, t.cmdReady, t.rsp.valid)) = some (.running, true, false, false) := by decide

/-- H14: found. -/
theorem test_next_H14 :
    seen (exec .next { at_ .synced with flag := true, fndlo := 5, baselo := 4, total := 4, lanes := 2, quota := 2 })
      (fun t => (t.rsltlo, t.rslthi, t.pstate, t.baselo, t.total)) = some (5, 0, .doneFound, 4, 4) := by decide

/-- E1: the sum is 2^128 exactly. -/
theorem test_next_E1 :
    seen (exec .next { at_ .synced with
        lanes := 2, quota := 2, baselo := 0xFFFFFFFFFFFFFFFC#64, basehi := top, total := 100 })
      (fun t => (t.total, t.baselo, t.basehi, t.pstate, t.rsp)) =
      some (104, 0, 0, .doneExhausted, okResponse 0) := by decide

/-! ## The lane micro-operations -/

/-- L2: an exact check of a claimed flag, lane 1. -/
theorem test_chk0_L2 :
    seen (exec .lChk0 (batch [lane 0 .inc 4 0 2, lane 1 .chk0 0 0 0] true false 1)) (fun t => t.ctx.map Lane.phase) =
      some [.inc, .ret] := by decide

/-- L3: a stale one. -/
theorem test_chk0_L3 :
    seen (exec .lChk0 (batch [lane 0 .inc 4 0 2, lane 1 .chk0 0 0 0] true true 1)) (fun t => t.ctx.map Lane.phase) =
      some [.inc, .start] := by decide

/-- L4: lane 1's first candidate. -/
theorem test_start_L4 :
    seen (exec .lStart (batch [lane 0 .chk0 0 0 0, lane 1 .start 9 9 9] false false 1)) (fun t => t.ctx) =
      some [lane 0 .chk0 0 0 0, lane 1 .loop 6 0 2] := by decide

/-- L5: with a carry. -/
theorem test_start_L5 :
    seen (exec .lStart { batch [lane 0 .chk0 0 0 0, lane 1 .start 9 9 9] false false 1 with baselo := top })
      (fun t => t.ctx) = some [lane 0 .chk0 0 0 0, lane 1 .loop 1 1 2] := by decide

/-- L6. -/
theorem test_loop_L6 :
    seen (exec .lLoop (batch [lane 0 .loop 4 0 2] false false 0)) (fun t => t.ctx) = some [lane 0 .chk 4 0 2] := by
  decide

/-- L7. -/
theorem test_loop_L7 :
    seen (exec .lLoop (batch [lane 0 .loop 6 0 0] false false 0)) (fun t => (t.ctx, t.flag, t.fndlo)) =
      some ([lane 0 .ret 6 0 0], false, 0) := by decide

/-- L9. -/
theorem test_chk_L9 :
    seen (exec .lChk (batch [lane 0 .chk 4 0 2] true false 0)) (fun t => t.ctx) = some [lane 0 .ret 4 0 2] := by
  decide

/-- L10. -/
theorem test_chk_L10 :
    seen (exec .lChk (batch [lane 0 .chk 4 0 2] true true 0)) (fun t => t.ctx) = some [lane 0 .cmp 4 0 2] := by decide

/-- L11. -/
theorem test_cmp_L11 :
    seen (exec .lCmp (batch [lane 0 .cmp 4 0 2] false false 0)) (fun t => t.ctx) = some [lane 0 .inc 4 0 2] := by
  decide

/-- L12. -/
theorem test_cmp_L12 :
    seen (exec .lCmp (batch [lane 0 .cmp 5 0 1] false false 0)) (fun t => t.ctx) = some [lane 0 .cas 5 0 1] := by
  decide

/-- L13. -/
theorem test_cas_L13 :
    seen (exec .lCas (batch [lane 0 .cas 5 0 1] false false 0)) (fun t => (t.flag, t.ctx)) =
      some (true, [{ lane 0 .wrlo 5 0 1 with won := true }]) := by decide

/-- L14, under a stale draw, which the claim never sees. -/
theorem test_cas_L14 :
    seen (exec .lCas (batch [lane 0 .cas 5 0 1] true true 0)) (fun t => (t.flag, t.fndlo, t.ctx)) =
      some (true, 0, [lane 0 .ret 5 0 1]) := by decide

/-- L15. -/
theorem test_wrlo_L15 :
    seen (exec .lWrlo (batch [lane 0 .wrlo 5 6 1] true false 0)) (fun t => (t.fndlo, t.fndhi, t.ctx)) =
      some (5, 0, [lane 0 .wrhi 5 6 1]) := by decide

/-- L16, with a high half. -/
theorem test_wrhi_L16 :
    seen (exec .lWrhi (batch [lane 0 .wrhi 5 6 1] true false 0)) (fun t => (t.fndlo, t.fndhi, t.ctx)) =
      some (0, 6, [lane 0 .ret 5 6 1]) := by decide

/-- L18: the carry. -/
theorem test_inc_L18 :
    seen (exec .lInc (batch [lane 0 .inc top 0 3] false false 0)) (fun t => t.ctx) = some [lane 0 .loop 0 1 2] := by
  decide

/-- L19: the silent wrap. -/
theorem test_inc_L19 :
    seen (exec .lInc (batch [lane 0 .inc top top 1] false false 0)) (fun t => (t.ctx, t.pstate)) =
      some ([lane 0 .loop 0 0 0], .running) := by decide

/-! ## The units at a reduced width, the step, faults and reset -/

/-- E6, `B = 12`: the 22nd advance of an 8-bit counter, and the 21st. -/
theorem test_reduced_width_E6 :
    addHalves 0xC#4 0xF#4 12#4 = (0x8#4, 0x0#4, true) ∧ addHalves 0x0#4 0xF#4 12#4 = (0xC#4, 0xF#4, false) := by
  decide

/-- F1: an illegal word, placed where the next step fetches. -/
theorem test_step_F1 :
    seen (step (State.reset.withFetchWord 32 0x03000000)) (fun t => (t.fcode.code, t.finfo, t.pstate, t.rsp)) =
      some (1#3, 0x03000000#32, .fault, errResponse) := by decide

/-- F13: an illegal word in `Fault` leaves the first fault's record. -/
theorem test_step_F13 :
    seen (step ({ at_ .fault with fcode := .protocol, finfo := 0x21000000 }.withFetchWord 32 0x03000000))
      (fun t => (t.fcode.code, t.finfo, t.rsp)) = some (3#3, 0x21000000#32, errResponse) := by decide

/-- The first step after reset runs a placed micro-operation, and a placed command. -/
theorem test_step_placed :
    seen (step (State.reset.withFetchWord 8 0x5)) (fun t => (t.flag, t.ctx.map Lane.phase)) = some (true, [.wrlo]) ∧
    seen (step (State.reset.withFetchWord 32 0x20000000)) (fun t => (t.pstate, t.rsp)) =
      some (.armed, okResponse 0) := by decide

/-- F20: reset leaves `Fault`. -/
theorem test_reset_F20 :
    seen (step { at_ .fault with fcode := .protocol, finfo := 0x21000000, env := { Env.quiet with turns := [.rst true] } })
      (fun t => (t.fcode.code, t.finfo, t.pstate, t.rst, t.cmdReady)) = some (0#3, 0, .config, true, false) := by decide

/-! ## Witnesses: states and operands that meet the hypotheses of the statements, one theorem for each statement
that has hypotheses, in the order of Obligations.lean. Where a statement has several clauses, each is met at an
end of its range. -/

/-- Laws 3 and 5 of R81: a sum that carries, and one that overflows (A3, A4). -/
theorem witness_AddLaws : carries top 1 = true ∧ (add { lo := top, hi := top } 1).2 = true := by decide

theorem witness_ReducedWidthAdderWrapsAtTheTop : 0 < 1 ∧ 0 < 4 := by decide

/-- The largest product that fits. -/
theorem witness_LaneStartAddsTheOffset : top.toNat * (1 : Word).toNat < 2 ^ 64 := by decide

/-- The largest batch, as one lane and as one candidate a lane, and X1's batch of four lanes with its lanes 2, 3. -/
theorem witness_LaneRangesPartitionTheBatch :
    (1 ≤ 1 ∧ 1 ≤ top.toNat ∧ 1 * top.toNat ≤ 2 ^ 64 - 1) ∧ (1 ≤ top.toNat ∧ 1 ≤ 1 ∧ top.toNat * 1 ≤ 2 ^ 64 - 1) ∧
    (1 ≤ 4 ∧ 1 ≤ 8 ∧ 4 * 8 ≤ 2 ^ 64 - 1 ∧ 2 < 4 ∧ 3 < 4 ∧ 7 < 8 ∧ 0 < 8 ∧ 2 ≠ 3 ∧ 2 + 1 < 4 ∧ 31 < 4 * 8) := by
  decide

theorem witness_TargetBytesAreLittleEndian : (List.replicate 16 (0xFF#8 : Byte)).length = 16 := by decide

theorem witness_EncodeOfDecode :
    decode (.command 0x01FF0000#32) = .ok (.wrr 0xFF#8) ∧ decode (.phase 0x8#4) = .ok .lInc := ⟨rfl, rfl⟩

/-- The first and the last protocol state, and the first and the last fault code. -/
theorem witness_RegisterFieldsReadAsTabled :
    (at_ .config).pstate = .config ∧ (at_ .fault).pstate = .fault ∧ State.reset.fcode = .none ∧
      ({ at_ .fault with fcode := .dispatch } : State).fcode = .dispatch := by decide

/-- OPD in `DoneFound`, and LANES in `Config`. -/
theorem witness_WrrWritesOneRegister :
    (Reg.ofNum 0x1A#8 = some .opd ∧ (at_ .doneFound).pstate ≠ .running ∧ (at_ .doneFound).pstate ≠ .fault ∧
      Reg.opd ∈ [Reg.opalo, .opahi, .opd, .opx, .opq]) ∧
    (Reg.ofNum 0x04#8 = some .lanes ∧ (at_ .config).pstate ≠ .running ∧ (at_ .config).pstate ≠ .fault ∧
      Reg.lanes ∈ [Reg.tgtlo, .tgthi, .lanes, .quota] ∧ (at_ .config).pstate = .config) := by decide

/-- OPQ in `Idle`; TGTLO in `Config`, and QUOTA in `Idle`; BASELO in `Config`, and UFLAGS in `DoneFound`. -/
theorem witness_WriteRights :
    ((at_ .idle).pstate ≠ .running ∧ (at_ .idle).pstate ≠ .fault ∧ Reg.ofNum 0x1C#8 = some .opq ∧
      Reg.opq ∈ [Reg.opalo, .opahi, .opd, .opx, .opq]) ∧
    ((at_ .config).pstate ≠ .running ∧ (at_ .config).pstate ≠ .fault ∧ Reg.ofNum 0x00#8 = some .tgtlo ∧
      Reg.tgtlo ∈ [Reg.tgtlo, .tgthi, .lanes, .quota] ∧ (at_ .config).pstate = .config) ∧
    (Reg.ofNum 0x05#8 = some .quota ∧ Reg.quota ∈ [Reg.tgtlo, .tgthi, .lanes, .quota] ∧ (at_ .idle).pstate ≠ .config) ∧
    (Reg.ofNum 0x02#8 = some .baselo ∧ Reg.ofNum 0x1F#8 = some .uflags ∧ (at_ .doneFound).pstate ≠ .running ∧
      (at_ .doneFound).pstate ≠ .fault ∧
      (∀ r ∈ [Reg.baselo, .uflags], r ∈ [Reg.baselo, .basehi, .flag, .fndlo, .fndhi, .total, .rsltlo, .rslthi, .status,
        .fcode, .finfo, .reslo, .reshi, .uflags])) := by decide

theorem witness_RdrAnswersTheRegister :
    Reg.ofNum 0x1F#8 = some .uflags ∧ (at_ .doneExhausted).pstate ≠ .running ∧ (at_ .doneExhausted).pstate ≠ .fault := by
  decide

/-- Register 0x20, FINFO and TGTLO. -/
theorem witness_RdrInFault :
    (at_ .fault).pstate = .fault ∧ Reg.ofNum 0x20#8 = none ∧
    (Reg.ofNum 0x12#8 = some .finfo ∧ Reg.finfo ∈ [Reg.status, .fcode, .finfo]) ∧
    (Reg.ofNum 0x00#8 = some .tgtlo ∧ Reg.tgtlo ∉ [Reg.status, .fcode, .finfo]) := by decide

/-- F7 (both orders at once), F8 and F17. -/
theorem witness_RegisterAccessTrapsInOrder :
    (Instr.wrr 0x07#8 = .wrr 0x07#8 ∧ (at_ .running).pstate ≠ .fault ∧ Reg.ofNum 0x07#8 = none) ∧
    ((at_ .running).pstate = .running ∧ Reg.ofNum 0x02#8 ≠ none) ∧ (at_ .fault).pstate = .fault := by decide

/-- For WADD, LSTART and BMATCH alike: after reset, and in `DoneFound` (H20). -/
theorem witness_WaddAddsOnce :
    (State.reset.pstate ≠ .running ∧ State.reset.pstate ≠ .fault) ∧
      (at_ .doneFound).pstate ≠ .running ∧ (at_ .doneFound).pstate ≠ .fault := by decide

theorem witness_LstartOffsetsOnce : (at_ .synced).pstate ≠ .running ∧ (at_ .synced).pstate ≠ .fault := by decide

theorem witness_BmatchComparesOnce : (at_ .armed).pstate ≠ .running ∧ (at_ .armed).pstate ≠ .fault := by decide

theorem witness_BresetArms : (at_ .config).pstate = .config ∧ (at_ .idle).pstate = .idle := by decide

/-- The largest legal product, with the smallest lane count. -/
theorem witness_LaunchCreatesTheLanes :
    widestBatch.pstate = .armed ∧ 1 ≤ widestBatch.lanes.toNat ∧ widestBatch.lanes.toNat ≤ Config.maxLanes ∧
      1 ≤ widestBatch.quota.toNat ∧ widestBatch.lanes.toNat * widestBatch.quota.toNat < 2 ^ 64 ∧
      widestBatch.env.dispatchFails = false :=
  ⟨rfl, by decide, (widestBatch.launchLegal_iff.mp widestBatch_legal).2.1, by decide, by decide, rfl⟩

/-- H9, H10, H8, and a failing environment. -/
theorem witness_LaunchFailsClosed :
    (at_ .armed).pstate = .armed ∧ (at_ .armed).lanes.toNat = 0 ∧
    ({ at_ .armed with lanes := 4 } : State).quota.toNat = 0 ∧
    2 ^ 64 ≤ (2 : Word).toNat * (0x8000000000000000#64).toNat ∧
    ({ widestBatch with env := { Env.quiet with dispatchFails := true } } : State).env.dispatchFails = true := by
  decide

theorem witness_SyncWaitsForEveryLane :
    (batch [lane 0 .ret 0 0 0] false false 0).pstate = .running ∧
    (∀ l ∈ (batch [lane 0 .ret 0 0 0, lane 1 .ret 0 0 0] false false 0).ctx, l.phase = .ret) ∧
    (∃ l ∈ (batch [lane 0 .ret 0 0 0, lane 1 .inc 6 0 2] false false 0).ctx, l.phase ≠ .ret) :=
  ⟨rfl, by decide, lane 1 .inc 6 0 2, by decide, by decide⟩

/-- A found batch, and an unfound one of the largest size, whose sum meets 2^128 and misses it by one. -/
theorem witness_NextEndsTheIteration :
    ((at_ .synced).pstate = .synced ∧ ({ at_ .synced with flag := true } : State).flag = true) ∧
    ((at_ .synced).flag = false ∧ (1 : Word).toNat * top.toNat < 2 ^ 64) ∧
    2 ^ 128 = ({ at_ .synced with baselo := 1, basehi := top } : State).base.val + 1 * top.toNat ∧
    2 ^ 128 = ({ at_ .synced with baselo := 0, basehi := top } : State).base.val + 1 * top.toNat + 1 := by decide

theorem witness_CommandsOutOfOrderTrap :
    Instr.next ∈ [Instr.wadd, .lstart, .bmatch, .breset, .launch, .sync, .next] ∧
    outOfOrder .next (at_ .idle).pstate = true ∧ outOfOrder .wadd (at_ .running).pstate = true ∧
    outOfOrder .sync (at_ .synced).pstate = true ∧ (at_ .fault).pstate = .fault := by decide

/-- For the statements about one lane's step: lane 1 of two, in a given phase. -/
def secondLane (p : Phase) (flag stale : Bool) : State := batch [lane 0 .ret 0 0 0, lane 1 p 5 0 1] flag stale 1

/-- The lane of `secondLane`, and that it is the turn's. -/
theorem secondLane_turn (p : Phase) (flag stale : Bool) :
    (secondLane p flag stale).pstate = .running ∧
      (secondLane p flag stale).ctx[(secondLane p flag stale).env.lane]? = some (lane 1 p 5 0 1) := ⟨rfl, rfl⟩

/-- Both checks, on an unset flag, on a claimed one seen and on a claimed one missed. -/
theorem witness_FlagChecksAreBestEffort :
    (secondLane .chk0 true false).pstate = .running ∧
    (secondLane .chk0 true false).ctx[1]? = some (lane 1 .chk0 5 0 1) ∧ (lane 1 .chk0 5 0 1).phase = .chk0 ∧
    (secondLane .chk true true).ctx[1]? = some (lane 1 .chk 5 0 1) ∧ (lane 1 .chk 5 0 1).phase = .chk ∧
    (secondLane .chk true true).env.lane = 1 ∧ (secondLane .chk0 true false).env.lane = 1 := by decide

theorem witness_StartGivesTheFirstCandidate :
    (secondLane .start false false).pstate = .running ∧
    (secondLane .start false false).ctx[(secondLane .start false false).env.lane]? = some (lane 1 .start 5 0 1) ∧
    (lane 1 .start 5 0 1).phase = .start := by decide

/-- With a count left, and with none. -/
theorem witness_LoopEndsWithTheQuota :
    (secondLane .loop false false).pstate = .running ∧
    (secondLane .loop false false).ctx[(secondLane .loop false false).env.lane]? = some (lane 1 .loop 5 0 1) ∧
    (lane 1 .loop 5 0 1).phase = .loop ∧ (lane 1 .loop 5 0 1).rem.toNat = 1 ∧ (lane 1 .loop 5 0 0).rem.toNat = 0 := by
  decide

/-- The candidate is the target, and is not. -/
theorem witness_CmpMatchesTheTarget :
    (secondLane .cmp false false).pstate = .running ∧
    (secondLane .cmp false false).ctx[(secondLane .cmp false false).env.lane]? = some (lane 1 .cmp 5 0 1) ∧
    (lane 1 .cmp 5 0 1).phase = .cmp ∧ (lane 1 .cmp 5 0 1).cand.val = (secondLane .cmp false false).tgt.val ∧
    (lane 1 .cmp 5 1 1).cand.val ≠ (secondLane .cmp false false).tgt.val := by decide

/-- On an unset flag, and on a claimed one. -/
theorem witness_CasClaimsOnce :
    (secondLane .cas true true).pstate = .running ∧
    (secondLane .cas true true).ctx[(secondLane .cas true true).env.lane]? = some (lane 1 .cas 5 0 1) ∧
    (lane 1 .cas 5 0 1).phase = .cas ∧ (secondLane .cas false true).flag = false := by decide

theorem witness_WinnerWritesBothHalves :
    (secondLane .wrlo true false).pstate = .running ∧
    (secondLane .wrlo true false).ctx[(secondLane .wrlo true false).env.lane]? = some (lane 1 .wrlo 5 0 1) ∧
    (lane 1 .wrlo 5 0 1).phase = .wrlo ∧
    (secondLane .wrhi true false).ctx[(secondLane .wrhi true false).env.lane]? = some (lane 1 .wrhi 5 0 1) ∧
    (lane 1 .wrhi 5 0 1).phase = .wrhi := by decide

theorem witness_IncStepsTheCandidate :
    (secondLane .inc false false).pstate = .running ∧
    (secondLane .inc false false).ctx[(secondLane .inc false false).env.lane]? = some (lane 1 .inc 5 0 1) ∧
    (lane 1 .inc 5 0 1).phase = .inc ∧ 1 ≤ (lane 1 .inc 5 0 1).rem.toNat := by decide

theorem witness_MicroOperationsNeedTheirPhase :
    isCommand .lInc = false ∧ ∃ t, exec .lInc (secondLane .inc false false) = .next t := ⟨rfl, _, rfl⟩

theorem witness_LaneAccessMatrix :
    isCommand .lCas = false ∧ (∃ t, exec .lCas (secondLane .cas false false) = .next t) ∧ Reg.opd ∉ [Reg.flag, .fndlo, .fndhi] ∧
      Instr.lLoop ≠ .lCas ∧ (0 : Nat) ≠ (secondLane .cas false false).env.lane :=
  ⟨rfl, ⟨_, rfl⟩, by decide, by decide, by decide⟩

/-- K1: three lanes in CAS with one candidate, and the same after the first claim. -/
theorem witness_ClaimsExcludeEachOther :
    isCommand .lCas = false ∧
    ClaimOk (batch [lane 0 .cas 0x2A 7 1, lane 1 .cas 0x2A 7 1, lane 2 .cas 0x2A 7 1] false false 1) ∧
    ClaimOk (batch [lane 0 .cas 0x2A 7 1, lane 1 .wrlo 0x2A 7 1, lane 2 .cas 0x2A 7 1] true false 0) ∧
    ∃ t, exec .lCas (batch [lane 0 .cas 0x2A 7 1, lane 1 .wrlo 0x2A 7 1, lane 2 .cas 0x2A 7 1] true false 0) =
      .next t := by
  refine ⟨rfl, ⟨?_, ?_⟩, ⟨fun _ _ _ _ => rfl, ?_⟩, _, rfl⟩
  · intro i l hl hw
    match i, hl with
    | 0, hl | 1, hl | 2, hl => cases hl; cases hw
  · intro i j l m hl hm hw hv
    match i, hl with
    | 0, hl | 1, hl | 2, hl => cases hl; cases hw
  · intro i j l m hl hm hw hv
    match i, hl, j, hm with
    | 1, _, 1, _ => rfl
    | 0, hl, _, _ | 2, hl, _, _ => cases hl; cases hw
    | 1, _, 0, hm | 1, _, 2, hm => cases hm; cases hv

/-- F3: `LAUNCH` in `Config`. -/
theorem witness_FaultsArePrecise :
    (at_ .config).pstate ≠ .fault ∧ ∃ t, exec .launch (at_ .config) = .next t ∧ t.pstate = .fault :=
  ⟨by decide, _, rfl, rfl⟩

theorem witness_FaultRefusesCommands :
    (at_ .fault).pstate = .fault ∧ isCommand (.wrr 0x1A#8) = true ∧ Instr.wrr 0x1A#8 ≠ .nop ∧
      ∀ n, Instr.wrr 0x1A#8 ≠ .rdr n := ⟨rfl, rfl, by decide, fun _ h => by cases h⟩

/-- A state with one command offered and the command port's turn. -/
def offered (p : PState) (w : CmdWord) : State :=
  { at_ p with env := { Env.quiet with offers := [{ word := w, wdata := 7 }], turns := [.host true] } }

theorem witness_FaultIsSticky :
    (offered .fault 0x20000000#32).pstate = .fault ∧ nextTurnIsReset (offered .fault 0x20000000#32) = false ∧
      ∃ t, step (offered .fault 0x20000000#32) = .next t := ⟨rfl, rfl, _, rfl⟩

/-- One word for each of R66's three grounds: 0x21000001, 0x24000000 and 0x21FF0000, in `Armed` and in `Fault`. -/
theorem witness_IllegalWordsFault :
    ((offered .armed 0x21000001#32).env.turns = [.host true] ∧ (offered .armed 0x21000001#32).rst = false ∧
      (offered .armed 0x21000001#32).syncPending = false ∧
      (offered .armed 0x21000001#32).env.offers = [{ word := 0x21000001#32, wdata := 7 }] ∧
      (splitWord 0x21000001#32).zero ≠ 0) ∧
    (splitWord 0x24000000#32).op ∉
      [0x00#8, 0x01#8, 0x02#8, 0x10#8, 0x11#8, 0x12#8, 0x20#8, 0x21#8, 0x22#8, 0x23#8] ∧
    ((splitWord 0x21FF0000#32).op ∈ [0x00#8, 0x10#8, 0x11#8, 0x12#8, 0x20#8, 0x21#8, 0x22#8, 0x23#8] ∧
      (splitWord 0x21FF0000#32).reg ≠ 0) ∧
    (offered .armed 0x24000000#32).pstate ≠ .fault ∧ (offered .fault 0x24000000#32).pstate = .fault := by decide

/-- A held `SYNC` in a batch of one lane and one candidate, TGT = 0, BASE = 0, with a given schedule. -/
def heldBatch (turns : List Turn) : State :=
  { at_ .running with
    lanes := 1, quota := 1, ctx := [lane 0 .chk0 0 0 0], syncPending := true
    env := { Env.quiet with turns := turns } }

/-- An accepted command, a lane's turn, and a held `SYNC`. -/
theorem witness_StepRunsTheDecodedInstruction :
    ((offered .config 0x20000000#32).env.turns = [.host true] ∧ (offered .config 0x20000000#32).rst = false ∧
      (offered .config 0x20000000#32).syncPending = false ∧
      (offered .config 0x20000000#32).env.offers = [{ word := 0x20000000#32, wdata := 7 }] ∧
      decodeCommand 0x20000000#32 = .ok .breset) ∧
    ((heldBatch [.lane 0 false]).env.turns = [.lane 0 false] ∧ (heldBatch [.lane 0 false]).rst = false ∧
      (heldBatch [.lane 0 false]).pstate = .running ∧
      (heldBatch [.lane 0 false]).ctx[0]? = some (lane 0 .chk0 0 0 0) ∧
      decodePhase (lane 0 .chk0 0 0 0).phase.code = .ok .lChk0) ∧
    ((heldBatch [.host true]).env.turns = [.host true] ∧ (heldBatch [.host true]).syncPending = true) :=
  ⟨⟨rfl, rfl, rfl, rfl, rfl⟩, ⟨rfl, rfl, rfl, rfl, rfl⟩, rfl, rfl⟩

theorem witness_ResetStateIsComplete :
    ({ heldBatch [.rst false] with rst := true } : State).env.turns = [.rst false] ∧
    ({ heldBatch [.rst false] with rst := true } : State).rst = true := ⟨rfl, rfl⟩

/-- `rst` driven to 1 in `Running` with a held `SYNC`, and a lane's turn under it. -/
theorem witness_ResetHoldsTheBlock :
    (heldBatch [.rst true]).env.turns = [.rst true] ∧
    ({ heldBatch [.lane 0 false] with rst := true } : State).rst = true ∧
      nextTurnIsReset { heldBatch [.lane 0 false] with rst := true } = false := ⟨rfl, rfl, rfl⟩

/-- A lane's turn, and the port's. -/
theorem witness_HeldSyncBlocksThePort :
    ((heldBatch [.lane 0 false]).syncPending = true ∧ (heldBatch [.lane 0 false]).pstate = .running ∧
      (heldBatch [.lane 0 false]).rst = false ∧ nextTurnIsReset (heldBatch [.lane 0 false]) = false ∧
      ∃ t, step (heldBatch [.lane 0 false]) = .next t) ∧
    nextTurnIsReset (heldBatch [.host false]) = false ∧ ∃ t, step (heldBatch [.host false]) = .next t :=
  ⟨⟨rfl, rfl, rfl, rfl, _, rfl⟩, rfl, _, rfl⟩

theorem witness_ProtocolFollowsTheTable :
    ∃ t, exec .breset (at_ .idle) = .next t ∧ t.pstate ≠ (at_ .idle).pstate := ⟨_, rfl, by decide⟩

/-- From `Config`, and from the terminal `DoneFound`, which a fault leaves for `Fault`. -/
theorem witness_StepsFollowTheProtocol :
    (nextTurnIsReset (offered .config 0x20000000#32) = false ∧ ∃ t, step (offered .config 0x20000000#32) = .next t) ∧
    (nextTurnIsReset (offered .doneFound 0x20000000#32) = false ∧
      (∃ t, step (offered .doneFound 0x20000000#32) = .next t) ∧ terminal (offered .doneFound 0x20000000#32).pstate = true) :=
  ⟨⟨rfl, _, rfl⟩, rfl, ⟨_, rfl⟩, rfl⟩

theorem witness_OnlyNextMovesTheBase :
    (∃ t, exec .breset (at_ .idle) = .next t) ∧ Instr.breset ≠ .next := ⟨⟨_, rfl⟩, by decide⟩

/-- `WRR LANES` offered in `Idle`. -/
theorem witness_ParametersAreFrozen :
    (offered .idle 0x01040000#32).pstate ≠ .config ∧ nextTurnIsReset (offered .idle 0x01040000#32) = false ∧
      ∃ t, step (offered .idle 0x01040000#32) = .next t := ⟨by decide, rfl, _, rfl⟩

theorem witness_FlagIsClaimedForTheBatch :
    ({ heldBatch [.lane 0 false] with flag := true } : State).pstate = .running ∧
    nextTurnIsReset { heldBatch [.lane 0 false] with flag := true } = false ∧
    (∃ t, step { heldBatch [.lane 0 false] with flag := true } = .next t ∧ t.pstate = .running) ∧
    ({ heldBatch [.lane 0 false] with flag := true } : State).flag = true := ⟨rfl, rfl, ⟨_, rfl, rfl⟩, rfl⟩

theorem heldBatch_legal (turns : List Turn) : (heldBatch turns).launchLegal = true :=
  State.launchLegal_iff _ |>.mpr
    ⟨by simp [heldBatch], by simpa [heldBatch] using Config_one_le_maxLanes, by simp [heldBatch], by simp [heldBatch]⟩

/-- The invariant in `Running`. -/
theorem heldBatch_inv (turns : List Turn) : BlockInv (heldBatch turns) where
  held _ := rfl
  noLanes h := absurd rfl h
  faulted := ⟨fun h => (by cases h), fun h => absurd rfl h⟩
  noInfo _ := rfl
  total := rfl
  unfound _ _ := ⟨rfl, rfl⟩
  phase := by
    refine ⟨Nat.le_of_eq rfl, ?_, rfl, rfl⟩
    have only : ∀ (i : Nat) (l : Lane), (heldBatch turns).ctx[i]? = some l → i = 0 ∧ l = lane 0 .chk0 0 0 0 := by
      intro i l hl
      cases i with
      | zero => exact ⟨rfl, (Option.some.inj hl).symm⟩
      | succ i => simp [heldBatch] at hl
    exact
      { legal := heldBatch_legal turns
        length := rfl
        lane := fun i l hl => by
          obtain ⟨rfl, rfl⟩ := only i l hl
          constructor <;> simp [lane, holdsCandidate, isWriter, rejected]
        writer := fun i j l m hl hm _ _ => by rw [(only i l hl).1, (only j m hm).1]
        written := fun h _ => by cases h
        inBatch := fun h => by cases h }
  underReset h := by cases h

/-- The invariant after reset and in `Running`, with a step of a lane. -/
theorem witness_EveryStepKeepsTheInvariant :
    BlockInv (heldBatch [.lane 0 false]) ∧ ∃ t, step (heldBatch [.lane 0 false]) = .next t :=
  ⟨heldBatch_inv _, _, rfl⟩

/-- The one lane's turns, enough for its eight steps. -/
def eightTurns : List Turn := List.replicate 8 (.lane 0 false)

theorem witness_EveryLaneStepComesNearerToReturn :
    BlockInv (heldBatch [.lane 0 true]) ∧ (heldBatch [.lane 0 true]).env.turns = [.lane 0 true] ∧
    (heldBatch [.lane 0 true]).rst = false ∧ (heldBatch [.lane 0 true]).pstate = .running ∧
    (heldBatch [.lane 0 true]).ctx[0]? = some (lane 0 .chk0 0 0 0) ∧ (lane 0 .chk0 0 0 0).phase ≠ .ret ∧
    ∃ t, step (heldBatch [.lane 0 true]) = .next t := ⟨heldBatch_inv _, rfl, rfl, rfl, rfl, by decide, _, rfl⟩

/-- The least number of turns, `4*Q + 4` for `Q = 1`. -/
theorem witness_SyncCompletesUnderAFairSchedule :
    BlockInv (heldBatch (eightTurns ++ [.host false])) ∧
    (heldBatch (eightTurns ++ [.host false])).pstate = .running ∧
    (heldBatch (eightTurns ++ [.host false])).rst = false ∧
    (heldBatch (eightTurns ++ [.host false])).syncPending = true ∧
    (heldBatch (eightTurns ++ [.host false])).env.turns = eightTurns ++ [.host false] ∧
    onlyLanes eightTurns = true ∧
    ∀ i, i < (heldBatch (eightTurns ++ [.host false])).lanes.toNat →
      4 * (heldBatch (eightTurns ++ [.host false])).quota.toNat + 4 ≤ turnsOf i eightTurns :=
  ⟨heldBatch_inv _, rfl, rfl, rfl, rfl, by decide, by decide⟩

/-- Two schedules of one batch, the second with stale draws and an early try of the `SYNC`, that reach `Synced`. -/
theorem witness_OutcomeIsIndependentOfTheSchedule :
    BlockInv (heldBatch []) ∧ (heldBatch []).pstate = .running ∧ (heldBatch []).rst = false ∧
    (heldBatch []).syncPending = true ∧ noReset (eightTurns ++ [.host false]) = true ∧
    noReset (.host true :: List.replicate 8 (.lane 0 true) ++ [.host false]) = true ∧
    (∃ t, run 9 { heldBatch [] with env := { (heldBatch []).env with offers := [], turns := eightTurns ++ [.host false] } } =
      .next t ∧ t.pstate = .synced) ∧
    (∃ t, run 10 { heldBatch [] with
        env := { (heldBatch []).env with
          offers := [], turns := .host true :: List.replicate 8 (.lane 0 true) ++ [.host false] } } =
      .next t ∧ t.pstate = .synced) :=
  ⟨heldBatch_inv _, rfl, rfl, rfl, by decide, by decide, ⟨_, rfl, rfl⟩, ⟨_, rfl, rfl⟩⟩

/-- A run that finds the all-zero target at once: the start-up of R203, one `BATCH` of R73, and the lane's turns. -/
def shortestRun : State :=
  { State.reset with
    env := { Env.quiet with
      offers := [assemble (.wrr .lanes 1), assemble (.wrr .quota 1), assemble .breset, assemble .launch,
        assemble .sync, assemble .next]
      turns := List.replicate 4 (.host false) ++ eightTurns ++ [.host false, .host false] } }

/-- Its state before `LAUNCH`. -/
def armedRun : State :=
  { State.reset with
    lanes := 1, quota := 1, pstate := .armed, rsp := okResponse 0, cmd := assemble .breset
    env := { Env.quiet with
      offers := [assemble .launch, assemble .sync, assemble .next]
      turns := .host false :: eightTurns ++ [.host false, .host false] } }

/-- Its state after `LAUNCH`. -/
def launchedRun : State :=
  { armedRun with
    pstate := .running, ctx := [freshLane 0 0], draws := 1, cmd := assemble .launch
    env := { Env.quiet with
      offers := [assemble .sync, assemble .next]
      turns := eightTurns ++ [.host false, .host false] } }

theorem armedRun_step : step armedRun = .next launchedRun := by
  have hl : State.launchLegal { armedRun with
      cmd := assemble .launch, rsp := Response.none, env := launchedRun.env } = true :=
    (State.launchLegal_iff _).mpr ⟨by decide, Config_one_le_maxLanes, by decide, by decide⟩
  have h1 : step armedRun = exec .launch { armedRun with
      cmd := assemble .launch, rsp := Response.none, env := launchedRun.env } := rfl
  rw [h1]
  simp only [exec, execLaunch, hl]
  rfl

/-- In fourteen steps from reset, whatever MAX_LANES and the free values are. -/
theorem witness_RunsFromResetReportTheTarget :
    ∃ t, run 14 shortestRun = .next t ∧ t.pstate = .doneFound := by
  have h1 : run 14 shortestRun = run 11 armedRun := rfl
  have h2 : run 11 armedRun = run 10 launchedRun := by rw [run, armedRun_step]
  exact ⟨_, by rw [h1, h2]; rfl, rfl⟩

end Sys2Proof.Tests
end

section
/-! PROOFS. Every turn has a successor (R6, R104, R170). A turn runs a host command, which answers a next state from
every state, or the micro-operation of the phase in which the turn's lane stands, which is the condition under which
that micro-operation has a step. -/

namespace Sys2Proof.Safety

open Sys2Proof Sys2Proof.Machine

/-- The result of a decoder that accepts host commands only. -/
def CommandOnly (e : Except Reject Instr) : Prop := ∀ i, e = .ok i → isCommand i = true

theorem CommandOnly.error (r : Reject) : CommandOnly (.error r) := by
  intro i h
  cases h

theorem CommandOnly.ok {i : Instr} (hi : isCommand i = true) : CommandOnly (.ok i) := by
  intro j h
  cases h
  exact hi

theorem CommandOnly.ite {c : Prop} [Decidable c] {a b : Except Reject Instr} (ha : CommandOnly a)
    (hb : CommandOnly b) : CommandOnly (if c then a else b) :=
  iteInduction (fun _ => ha) (fun _ => hb)

/-- A command word never decodes to a lane micro-operation: each of R71's tests ends in a rejection or a host
command. -/
theorem decodeCommand_commandOnly (w : CmdWord) : CommandOnly (decodeCommand w) := by
  unfold decodeCommand decodeFields
  refine .ite (.error _) <| .ite (.ok ?wrr) <| .ite (.ok ?rdr) <| .ite (.error _) <| .ite (.ok ?nop) <|
    .ite (.ok ?wadd) <| .ite (.ok ?lstart) <| .ite (.ok ?bmatch) <| .ite (.ok ?breset) <| .ite (.ok ?launch) <|
    .ite (.ok ?sync) <| .ite (.ok ?next) (.error _)
  all_goals rfl

/-- A host command has a next state from every state: what is wrong with it is answered by a fault or a refusal of
the block, which are states (R20, R170). -/
theorem exec_eq_next_of_isCommand {i : Instr} (s : State) (h : isCommand i = true) : ∃ t, exec i s = .next t := by
  cases i with
  | nop | wrr _ | rdr _ | wadd | lstart | bmatch | breset | launch | sync | next => exact ⟨_, rfl⟩
  | lChk0 | lStart | lLoop | lChk | lCmp | lCas | lWrlo | lWrhi | lInc => cases h

/-- The micro-operation of a phase is a lane's step from that phase (R68). -/
theorem exec_phaseInstr {p : Phase} {i : Instr} (s : State) (h : phaseInstr p = .ok i) :
    ∃ effect, exec i s = s.laneStep p effect := by
  cases p with
  | chk0 | start | loop | chk | cmp | cas | wrlo | wrhi | inc => cases h; exact ⟨_, rfl⟩
  | ret => cases h

/-- The micro-operation of the phase in which the turn's lane stands is enabled (R104). -/
theorem exec_eq_next_of_turnLane {s : State} {l : Lane} {i : Instr} (hl : s.turnLane = some l)
    (hi : phaseInstr l.phase = .ok i) : ∃ t, exec i s = .next t := by
  obtain ⟨effect, he⟩ := exec_phaseInstr s hi
  obtain ⟨hr, hc⟩ := s.turnLane_eq_some.mp hl
  exact ⟨effect l, he.trans (s.laneStep_eq_next.mpr ⟨l, hr, hc, rfl, rfl⟩)⟩

/-- The command port's turn runs host commands only (R60). -/
theorem isCommand_of_fetchHost {s t : State} {i : Instr} (h : fetchHost s = .run i t) : isCommand i = true := by
  obtain ⟨_, hf⟩ | ⟨_, _, hf⟩ | ⟨_, _, _, hf⟩ | ⟨_, _, _, _, _, _, hd, hf⟩ | ⟨_, _, _, _, _, _, _, hf⟩ :=
    fetchHost_cases s <;> cases hf.symm.trans h
  case inr.inl => rfl
  case inr.inr.inr.inl => exact decodeCommand_commandOnly _ _ hd

/-- A lane's turn runs the micro-operation of the phase in which the turn's lane stands (R68). -/
theorem turnLane_of_fetchLane {s t : State} {i : Instr} (h : fetchLane s = .run i t) :
    ∃ l, t.turnLane = some l ∧ phaseInstr l.phase = .ok i := by
  obtain ⟨_, hf⟩ | ⟨l, _, _, hl, hi, hf⟩ := fetchLane_cases s <;> cases hf.symm.trans h
  exact ⟨l, hl, hi⟩

/-- What a turn asks for is a host command or an enabled micro-operation (R5, R104). -/
theorem fetch_run_cases {s t : State} {i : Instr} (h : fetch s = .run i t) :
    isCommand i = true ∨ ∃ l, t.turnLane = some l ∧ phaseInstr l.phase = .ok i := by
  unfold fetch at h
  split at h
  · cases h
  · exact .inl (isCommand_of_fetchHost h)
  · exact .inr (turnLane_of_fetchLane h)
  · cases h

/-- Settles O46: the turn's instruction has a next state, and a settled turn is one. -/
theorem everyStepHasASuccessor : Obligations.EveryStepHasASuccessor := by
  intro s
  obtain ⟨i, t, hf, hs⟩ | ⟨t, _, hs⟩ := step_eq s
  · rw [hs]
    obtain hc | ⟨l, hl, hi⟩ := fetch_run_cases hf
    · exact exec_eq_next_of_isCommand t hc
    · exact exec_eq_next_of_turnLane hl hi
  · exact ⟨t, hs⟩

end Sys2Proof.Safety
end

section
/-! PROOFS. The registers: sixteen bytes in a register pair (R11, R41), the register numbers (R12, R19, R63), and what
the registers that are no plain words read as (R12, R20, R171). -/

namespace Sys2Proof

namespace Machine

/-! ### Bytes as the base-2^8 digits of a number -/

/-- The number whose little-endian image is a list of bytes. -/
def littleEndian (bs : List Byte) : Nat := Nat.ofDigits (2 ^ 8) (bs.map BitVec.toNat)

theorem littleEndian_cons (b : Byte) (bs : List Byte) :
    littleEndian (b :: bs) = b.toNat + 2 ^ 8 * littleEndian bs :=
  Nat.ofDigits_cons

theorem littleEndian_eq_foldr (bs : List Byte) :
    littleEndian bs = bs.foldr (fun b rest => b.toNat + 2 ^ 8 * rest) 0 := by
  simp only [littleEndian, Nat.ofDigits_eq_foldr, List.foldr_map, Nat.cast_id]

theorem littleEndian_append (xs ys : List Byte) :
    littleEndian (xs ++ ys) = littleEndian xs + 2 ^ (8 * xs.length) * littleEndian ys := by
  simp only [littleEndian, List.map_append, Nat.ofDigits_append, List.length_map, Nat.pow_mul]

theorem lt_of_mem_map_toNat (bs : List Byte) : ∀ x ∈ bs.map BitVec.toNat, x < 2 ^ 8 := by
  intro x hx
  obtain ⟨b, _, rfl⟩ := List.mem_map.mp hx
  exact b.isLt

theorem littleEndian_lt (bs : List Byte) : littleEndian bs < 2 ^ (8 * bs.length) := by
  have h := Nat.ofDigits_lt_base_pow_length (by decide) (lt_of_mem_map_toNat bs)
  rwa [List.length_map, ← Nat.pow_mul] at h

/-- Byte `k` of a list is digit `k` of its number. -/
theorem littleEndian_digit (bs : List Byte) (k : Nat) (hk : k < bs.length) :
    littleEndian bs / 2 ^ (8 * k) % 2 ^ 8 = bs[k].toNat := by
  calc littleEndian bs / 2 ^ (8 * k) % 2 ^ 8
      = littleEndian (bs.drop k) % 2 ^ 8 := by
        rw [Nat.pow_mul, littleEndian, Nat.ofDigits_div_pow_eq_ofDigits_drop k (by decide) _ (lt_of_mem_map_toNat bs),
          ← List.map_drop, littleEndian]
    _ = bs[k].toNat := by
        rw [List.drop_eq_getElem_cons hk, littleEndian_cons, Nat.add_mul_mod_self_left]
        exact Nat.mod_eq_of_lt bs[k].isLt

/-- Up to eight bytes fill a word without loss: each shift of `wordOfBytes` is a multiplication by 2^8, and the
byte put below it meets only zeros. -/
theorem wordOfBytes_toNat (bs : List Byte) (h : bs.length ≤ 8) : (wordOfBytes bs).toNat = littleEndian bs := by
  induction bs with
  | nil => rfl
  | cons b rest ih =>
    have hlen : rest.length + 1 ≤ 8 := h
    have hfits : littleEndian rest < 2 ^ 56 :=
      (littleEndian_lt rest).trans_le (Nat.pow_le_pow_right (by decide) (by omega))
    have hb : b.toNat % 2 ^ 64 = b.toNat := by have := b.isLt; omega
    calc (wordOfBytes (b :: rest)).toNat
        = b.toNat ||| 2 ^ 8 * littleEndian rest := by
          rw [wordOfBytes, BitVec.toNat_or, BitVec.toNat_setWidth, BitVec.toNat_shiftLeft, ih (by omega), hb,
            Nat.shiftLeft_eq, Nat.mul_comm, Nat.mod_eq_of_lt (by omega)]
      _ = b.toNat + 2 ^ 8 * littleEndian rest := by
          rw [Nat.or_comm, ← Nat.two_pow_add_eq_or_of_lt b.isLt, Nat.add_comm]
      _ = littleEndian (b :: rest) := (littleEndian_cons b rest).symm

theorem byteOf_toNat (w : Word) (k : Nat) : (byteOf w k).toNat = w.toNat / 2 ^ (8 * k) % 2 ^ 8 := by
  rw [byteOf, BitVec.extractLsb'_toNat, Nat.shiftRight_eq_div_pow]

theorem byteOf_wordOfBytes (bs : List Byte) (h : bs.length ≤ 8) (k : Nat) (hk : k < bs.length) :
    byteOf (wordOfBytes bs) k = bs[k] := by
  apply BitVec.eq_of_toNat_eq
  rw [byteOf_toNat, wordOfBytes_toNat bs h, littleEndian_digit bs k hk]

theorem wideByte_wideOfBytes (bs : List Byte) (h : bs.length = 16) (k : Nat) (hk : k < bs.length) :
    wideByte (wideOfBytes bs) k = bs[k] := by
  unfold wideByte wideOfBytes
  split
  · next hlow => rw [byteOf_wordOfBytes _ (by simp [h]) k (by simp [h, hlow]), List.getElem_take]
  · next hhigh =>
    rw [byteOf_wordOfBytes _ (by simp [h]) (k - 8) (by rw [List.length_drop]; omega), List.getElem_drop]
    congr 1
    omega

/-- The bytes of a pair made of sixteen bytes are those bytes. -/
theorem wideBytes_wideOfBytes (bs : List Byte) (h : bs.length = 16) : wideBytes (wideOfBytes bs) = bs := by
  apply List.ext_getElem
  · simp [wideBytes, h]
  · intro k _ hk
    simp [wideBytes, wideByte_wideOfBytes bs h k hk]

theorem wideOfBytes_val (bs : List Byte) (h : bs.length = 16) : (wideOfBytes bs).val = littleEndian bs := by
  have happ := littleEndian_append (bs.take 8) (bs.drop 8)
  have hlen : (bs.take 8).length = 8 := by simp [h]
  rw [List.take_append_drop, hlen] at happ
  rw [Wide.val, wideOfBytes, wordOfBytes_toNat _ hlen.le, wordOfBytes_toNat _ (by simp [h]), happ]
  omega

/-- Settles O8: the two words are the low and the high eight digits to the base 2^8. -/
theorem targetBytesAreLittleEndian : Obligations.TargetBytesAreLittleEndian := fun bs h =>
  ⟨wideBytes_wideOfBytes bs h, (wideOfBytes_val bs h).trans (littleEndian_eq_foldr bs)⟩

end Machine

/-! ### The register numbers -/

theorem Reg.ofNum_eq_some {n : RegNum} {r : Reg} : Reg.ofNum n = some r ↔ r.num = n :=
  ⟨Reg.num_of_ofNum, fun h => h ▸ Reg.ofNum_num r⟩

theorem Reg.num_lt (r : Reg) : r.num.toNat < 0x20 := by
  cases r <;> decide

/-- R12's gaps in the numbers below 0x20. -/
theorem Reg.ofNum_eq_none_of_lt : ∀ k < 0x20,
    (Reg.ofNum (BitVec.ofNat 8 k) = none ↔
      BitVec.ofNat 8 k ∈ [0x06#8, 0x07#8, 0x0B#8, 0x0F#8] ∨ (0x13 ≤ k ∧ k ≤ 0x17)) := by
  decide

/-- No register has a number of 0x20 or more. -/
theorem Reg.ofNum_eq_none_of_le {n : RegNum} (h : 0x20 ≤ n.toNat) : Reg.ofNum n = none := by
  cases hr : Reg.ofNum n with
  | none => rfl
  | some r =>
    have hlt := Reg.num_lt r
    rw [Reg.ofNum_eq_some.mp hr] at hlt
    omega

/-- Settles O14: the numbers below 0x20 one by one, and those above by the bound on a register's number. -/
theorem registerNumbersNameTheRegisters : Obligations.RegisterNumbersNameTheRegisters := by
  refine ⟨by decide, fun n r => Reg.ofNum_eq_some, fun n => ?_⟩
  by_cases hn : n.toNat < 0x20
  · have h := Reg.ofNum_eq_none_of_lt n.toNat hn
    rw [BitVec.ofNat_toNat, BitVec.setWidth_eq] at h
    rw [h, ← or_assoc, or_iff_left (Nat.not_le.mpr hn)]
  · exact iff_of_true (Reg.ofNum_eq_none_of_le (Nat.not_lt.mp hn)) (.inr (.inr (Nat.not_lt.mp hn)))

namespace Machine

/-! ### The registers that read as fields -/

theorem toNat_append_eq {m n : Nat} (x : BitVec m) (y : BitVec n) : (x ++ y).toNat = x.toNat * 2 ^ n + y.toNat := by
  rw [BitVec.toNat_append, ← Nat.shiftLeft_add_eq_or_of_lt y.isLt, Nat.shiftLeft_eq]

/-- UFLAGS as a number, each field at its bit (R12). -/
theorem UFlags.word_toNat (u : UFlags) :
    u.word.toNat = u.ovf.toNat + 2 * u.carry.toNat + 4 * u.matched.toNat + 8 * u.ptrunc.toNat +
      256 * u.midx.toNat := by
  simp only [UFlags.word, toNat_append_eq, BitVec.toNat_ofBool, BitVec.toNat_ofNat]
  omega

theorem UFlags.word_zero : UFlags.zero.word = 0 := by decide

theorem flagWord_toNat (b : Bool) : (flagWord b).toNat = b.toNat := by
  rw [flagWord, BitVec.toNat_setWidth_of_le (by decide), BitVec.toNat_ofBool]

theorem State.readReg_status_toNat (s : State) : (s.readReg .status).toNat = s.pstate.code.toNat :=
  BitVec.toNat_setWidth_of_le (by decide)

theorem State.readReg_fcode_toNat (s : State) : (s.readReg .fcode).toNat = s.fcode.code.toNat :=
  BitVec.toNat_setWidth_of_le (by decide)

theorem State.readReg_finfo_toNat (s : State) : (s.readReg .finfo).toNat = s.finfo.toNat :=
  BitVec.toNat_setWidth_of_le (by decide)

theorem PState.code_le (p : PState) : p.code.toNat ≤ 7 := by
  cases p <;> decide

theorem FaultCode.code_le (c : FaultCode) : c.code.toNat ≤ 5 := by
  cases c <;> decide

/-- Settles O15: each field by the word its register reads as, the codes by R20's and R171's tables. -/
theorem registerFieldsReadAsTabled : Obligations.RegisterFieldsReadAsTabled := by
  intro s
  refine ⟨flagWord_toNat s.flag, s.readReg_status_toNat, s.pstate.code_le, s.readReg_fcode_toNat, s.fcode.code_le,
    fun e he hp => ?status, fun e he hc => ?fcode, s.readReg_finfo_toNat, s.uflags.word_toNat⟩
  case status =>
    rw [s.readReg_status_toNat, hp]
    clear hp
    revert e
    decide
  case fcode =>
    rw [s.readReg_fcode_toNat, hc]
    clear hc
    revert e
    decide

end Machine

end Sys2Proof
end

section
/-! PROOFS. What an instruction and a step can do (R6, R21, R22): every next state of an instruction is one of the
cases of `Executes`, and every step but reset runs one instruction, meets an illegal word or passes, in a state that
differs from the given one in the port's inputs only. -/

namespace Sys2Proof.Safety

open Sys2Proof Sys2Proof.Machine

/-! ### Fault entry and refusal -/

/-- `State.raise` is the fault entry of R175, from every state and with every code. -/
theorem raise_entersFault (s : State) (c : FaultCode) : EntersFault s (s.raise c) c := by
  by_cases h : s.pstate = .running
  · rw [s.raise_of_running c h]
    exact
      { pstate := rfl, fcode := rfl, finfo := rfl, port := ⟨rfl, rfl, rfl, rfl, rfl⟩
        others := fun r hr => by cases r <;> simp [faultWrites, h] at hr <;> rfl
        lanes := ⟨fun _ => rfl, absurd h⟩ }
  · rw [s.raise_of_not_running c h]
    exact
      { pstate := rfl, fcode := rfl, finfo := rfl, port := ⟨rfl, rfl, rfl, rfl, rfl⟩
        others := fun r hr => by cases r <;> simp [faultWrites] at hr <;> rfl
        lanes := ⟨fun hr => absurd hr h, fun _ => rfl⟩ }

theorem refuse_refused (s : State) : Refused s s.refuse := rfl

/-- The target, the lane count and the quota (R11, R15). -/
def parameters (s : State) : Wide × Word × Word := (s.tgt, s.lanes, s.quota)

/-- BASE and TOTAL (R14). -/
def progress (s : State) : Wide × Word := (s.base, s.total)

theorem EntersFault.parameters_eq {s t : State} {c : FaultCode} (h : EntersFault s t c) :
    parameters t = parameters s := by
  have hlo : t.tgtlo = s.tgtlo := h.others .tgtlo rfl
  have hhi : t.tgthi = s.tgthi := h.others .tgthi rfl
  have hn : t.lanes = s.lanes := h.others .lanes rfl
  have hq : t.quota = s.quota := h.others .quota rfl
  simp only [parameters, State.tgt, hlo, hhi, hn, hq]

theorem EntersFault.progress_eq {s t : State} {c : FaultCode} (h : EntersFault s t c) :
    progress t = progress s := by
  have hlo : t.baselo = s.baselo := h.others .baselo rfl
  have hhi : t.basehi = s.basehi := h.others .basehi rfl
  have ht : t.total = s.total := h.others .total rfl
  simp only [progress, State.base, hlo, hhi, ht]

/-! ### The admission table -/

theorem whenAdmitted_of_protocol {s : State} {row : CommandRow} (effect : State)
    (h : admission row s.pstate = .protocol) : s.whenAdmitted row effect = s.raise .protocol := by
  simp only [State.whenAdmitted, h]

theorem whenAdmitted_of_refused {s : State} {row : CommandRow} (effect : State)
    (h : admission row s.pstate = .refused) : s.whenAdmitted row effect = s.refuse := by
  simp only [State.whenAdmitted, h]

theorem whenAdmitted_of_ok {s : State} {row : CommandRow} (effect : State)
    (h : admission row s.pstate = .ok) : s.whenAdmitted row effect = effect := by
  simp only [State.whenAdmitted, h]

/-- `X` stands in the column of `Fault` only (R22). -/
theorem eq_fault_of_refused {row : CommandRow} {p : PState} (h : admission row p = .refused) : p = .fault := by
  cases row <;> cases p <;> first | rfl | cases h

/-- `P` does not stand in the column of `Fault` (R22). -/
theorem ne_fault_of_protocol {row : CommandRow} {p : PState} (h : admission row p = .protocol) : p ≠ .fault := by
  rintro rfl
  cases row <;> cases h

/-- The table lets the command run: its entry is `ok` or `held` (R22). -/
def Admits (row : CommandRow) (p : PState) : Prop := admission row p = .ok ∨ admission row p = .held

theorem admits_rdr {p : PState} : Admits .rdr p ↔ p ≠ .running := by
  cases p <;> simp [Admits, admission]

theorem admits_wrr {p : PState} : Admits .wrr p ↔ p ≠ .running ∧ p ≠ .fault := by
  cases p <;> simp [Admits, admission]

theorem admits_unitAccess {p : PState} : Admits .unitAccess p ↔ p ≠ .running ∧ p ≠ .fault := by
  cases p <;> simp [Admits, admission]

theorem admits_breset {p : PState} : Admits .breset p ↔ p = .config ∨ p = .idle := by
  cases p <;> simp [Admits, admission]

theorem admits_launch {p : PState} : Admits .launch p ↔ p = .armed := by
  cases p <;> simp [Admits, admission]

theorem admits_sync {p : PState} : Admits .sync p ↔ p = .running := by
  cases p <;> simp [Admits, admission]

theorem admits_next {p : PState} : Admits .next p ↔ p = .synced := by
  cases p <;> simp [Admits, admission]

/-! ### What an instruction can do -/

/-- The ways an instruction `i` goes from `s` to a next state: a refusal in `Fault`, a fault entry of a command
outside `Fault`, or its own effect, with what the protocol state is where it takes place (R21, R22, R23, R104). -/
inductive Executes (s : State) : Instr → State → Prop
  | refused {i : Instr} : s.pstate = .fault → Executes s i s.refuse
  | faulted {i : Instr} (c : FaultCode) :
      isCommand i = true → i ≠ .nop → s.pstate ≠ .fault → Executes s i (s.raise c)
  | nothing : Executes s .nop (s.respond false 0)
  | read {n : RegNum} {r : Reg} : Reg.ofNum n = some r → s.pstate ≠ .running →
      Executes s (.rdr n) (s.respond false (s.readReg r))
  | drawn {n : RegNum} : s.pstate = .fault → Executes s (.rdr n) s.respondDraw
  | wrote {n : RegNum} {r : Reg} : Reg.ofNum n = some r → mayWrite r s.pstate = true →
      s.pstate ≠ .running → s.pstate ≠ .fault → Executes s (.wrr n) ((s.writeReg r s.cmd.wdata).respond false 0)
  | computed {i : Instr} (v : Wide) (u : UFlags) : i ∈ [.wadd, .lstart, .bmatch] →
      s.pstate ≠ .running → s.pstate ≠ .fault → Executes s i (((s.withRes v).withUFlags u).respond false 0)
  | armed : s.pstate = .config ∨ s.pstate = .idle →
      Executes s .breset ((s.clearBatch.withPState .armed).respond false 0)
  | launched : s.pstate = .armed → s.launchLegal = true →
      Executes s .launch ((s.createLanes.withPState .running).respond false 0)
  | synced : s.pstate = .running → s.allReturned = true →
      Executes s .sync ((s.discardLanes.withPState .synced).respond false 0)
  | held : s.pstate = .running → Executes s .sync s.holdSync
  | found : s.pstate = .synced → s.flag = true →
      Executes s .next ((s.takeResult.withPState .doneFound).respond false 0)
  | advanced {p : PState} : s.pstate = .synced → s.flag = false → p = .doneExhausted ∨ p = .idle →
      Executes s .next ((s.advance.withPState p).respond false 0)
  | stepped {i : Instr} (f : Bool) (lo hi : Word) (l : Lane) :
      isCommand i = false → s.pstate = .running → (s.flag = true → f = true) →
      Executes s i ({ s with flag := f, fndlo := lo, fndhi := hi }.setLane l)

/-- What the admission table makes of a command, given what the command does where it is let run. -/
theorem Executes.whenAdmitted {s : State} {i : Instr} {row : CommandRow} {effect : State}
    (hc : isCommand i = true) (hn : i ≠ .nop) (h : Admits row s.pstate → Executes s i effect) :
    Executes s i (s.whenAdmitted row effect) := by
  obtain ⟨ha, he⟩ | ⟨ha, he⟩ | ⟨ha, he⟩ := s.whenAdmitted_cases row effect <;> rw [he]
  · exact h ha
  · exact .faulted _ hc hn (ne_fault_of_protocol ha)
  · exact .refused (eq_fault_of_refused ha)

theorem Executes.execWrr (s : State) (n : RegNum) {t : State} (h : exec (.wrr n) s = .next t) :
    Executes s (.wrr n) t := by
  simp only [exec, Machine.execWrr, Host.Outcome.next.injEq] at h
  subst h
  split
  · next hf => exact .refused hf
  · next hf =>
    split
    · exact .faulted _ rfl nofun hf
    · next r hr =>
      refine .whenAdmitted rfl nofun fun ha => ?_
      split
      · next hw => exact .wrote hr hw (admits_wrr.mp ha).1 hf
      · exact .faulted _ rfl nofun hf

theorem Executes.execRdr (s : State) (n : RegNum) {t : State} (h : exec (.rdr n) s = .next t) :
    Executes s (.rdr n) t := by
  simp only [exec, Machine.execRdr, Host.Outcome.next.injEq] at h
  subst h
  split
  · split
    · next hf => exact .refused hf
    · next hf => exact .faulted _ rfl nofun hf
  · next r hr =>
    split
    · next hd => exact .drawn (by simp_all)
    · exact .whenAdmitted rfl nofun fun ha => .read hr (admits_rdr.mp ha)

/-- A micro-operation goes the way its effect on the turn's lane goes, which is asked for in `Running` only (R104). -/
theorem Executes.laneStep {s t : State} {i : Instr} {p : Phase} {effect : Lane → State}
    (heffect : ∀ l, s.pstate = .running → Executes s i (effect l)) (h : s.laneStep p effect = .next t) :
    Executes s i t := by
  obtain ⟨l, hr, _, _, rfl⟩ := s.laneStep_eq_next.mp h
  exact heffect l hr

/-- Every next state of an instruction is one of the cases of `Executes`. -/
theorem executes_of_exec {i : Instr} {s t : State} (h : exec i s = .next t) : Executes s i t := by
  cases i with
  | nop => cases h; exact .nothing
  | wrr n => exact .execWrr s n h
  | rdr n => exact .execRdr s n h
  | wadd | lstart =>
    cases h
    exact .whenAdmitted rfl nofun fun ha =>
      .computed _ _ (by simp) (admits_unitAccess.mp ha).1 (admits_unitAccess.mp ha).2
  | bmatch =>
    cases h
    exact .whenAdmitted rfl nofun fun ha =>
      .computed s.res _ (by simp) (admits_unitAccess.mp ha).1 (admits_unitAccess.mp ha).2
  | breset => cases h; exact .whenAdmitted rfl nofun fun ha => .armed (admits_breset.mp ha)
  | launch =>
    cases h
    refine .whenAdmitted rfl nofun fun ha => ?_
    have hp := admits_launch.mp ha
    split
    · next hl => exact .launched hp (Bool.and_eq_true_iff.mp hl).1
    · exact .faulted _ rfl nofun (by simp [hp])
  | sync =>
    cases h
    refine .whenAdmitted rfl nofun fun ha => ?_
    split
    · next hret => exact .synced (admits_sync.mp ha) hret
    · exact .held (admits_sync.mp ha)
  | next =>
    cases h
    refine .whenAdmitted rfl nofun fun ha => ?_
    have hp := admits_next.mp ha
    split
    · next hf => exact .found hp hf
    · next hf => exact .advanced hp (by simpa using hf) (by split <;> simp)
  | lChk0 | lStart | lLoop | lChk | lCmp | lInc =>
    exact .laneStep (fun l hr => .stepped s.flag s.fndlo s.fndhi _ rfl hr id) h
  | lCas =>
    refine .laneStep (fun l hr => ?_) h
    split
    · exact .stepped s.flag s.fndlo s.fndhi _ rfl hr id
    · exact .stepped true s.fndlo s.fndhi _ rfl hr fun _ => rfl
  | lWrlo => exact .laneStep (fun l hr => .stepped s.flag l.cand.lo s.fndhi _ rfl hr id) h
  | lWrhi => exact .laneStep (fun l hr => .stepped s.flag s.fndlo l.cand.hi _ rfl hr id) h

/-! ### What a step can do -/

/-- What a turn that does not drive the reset input comes to: it passes, it meets a word that is no command (R66), or it
runs an instruction. -/
inductive Turns (u : State) : State → Prop
  | passed : Turns u u
  | illegal : Turns u u.illegalCommand
  | ran {i : Instr} {t : State} : exec i u = .next t → Turns u t

/-- The states a fetched turn can lead to. -/
def Reaches : Fetched → State → Prop
  | .run i u, t => exec i u = .next t
  | .settled u, t => u = t

theorem step_eq_next_iff {s t : State} : step s = .next t ↔ Reaches (fetch s) t := by
  obtain ⟨i, u, hf, hs⟩ | ⟨u, hf, hs⟩ := step_eq s <;> simp [hf, hs, Reaches]

theorem turns_of_fetchHost {s t : State} (h : Reaches (fetchHost s) t) :
    ∃ e c r, Turns { s with env := e, cmd := c, rsp := r } t := by
  obtain ⟨_, hf⟩ | ⟨_, _, hf⟩ | ⟨_, _, _, hf⟩ | ⟨c, rest, i, _, _, _, _, hf⟩ | ⟨c, rest, _, _, _, _, _, hf⟩ :=
    fetchHost_cases s <;> rw [hf, Reaches] at h
  · exact ⟨s.env, s.cmd, s.rsp, h ▸ .passed⟩
  · exact ⟨s.env, s.cmd, s.rsp, .ran h⟩
  · exact ⟨s.env, s.cmd, s.rsp, h ▸ .passed⟩
  · exact ⟨{ s.env with offers := rest }, c, Response.none, .ran h⟩
  · exact ⟨{ s.env with offers := rest }, c, Response.none, h ▸ .illegal⟩

theorem turns_of_fetchLane {s t : State} (h : Reaches (fetchLane s) t) : Turns s t := by
  obtain ⟨_, hf⟩ | ⟨l, i, _, _, _, hf⟩ := fetchLane_cases s <;> rw [hf, Reaches] at h
  · exact h ▸ .passed
  · exact .ran h

/-- A step but reset is a turn taken in `s` with other inputs of the port and another response. -/
theorem turns_of_step {s t : State} (hr : nextTurnIsReset s = false) (h : step s = .next t) :
    ∃ e c r, Turns { s with env := e, cmd := c, rsp := r } t := by
  rw [step_eq_next_iff, fetch] at h
  split at h
  · exact ⟨s.env, s.cmd, s.rsp, h ▸ .passed⟩
  · obtain ⟨e, c, r, ht⟩ := turns_of_fetchHost h
    exact ⟨e, c, r, ht⟩
  · exact ⟨_, s.cmd, s.rsp, turns_of_fetchLane h⟩
  · next hts => simp [nextTurnIsReset, hts] at hr

/-- An illegal word is refused in `Fault` and enters it elsewhere (R66, R176). -/
theorem illegalCommand_cases (s : State) :
    Refused s s.illegalCommand ∨ EntersFault s s.illegalCommand .illegalCmd := by
  unfold State.illegalCommand
  split
  · exact .inl (refuse_refused s)
  · exact .inr (raise_entersFault s .illegalCmd)

end Sys2Proof.Safety
end

section
/-! PROOFS. The state of the block along its instructions and steps: the protocol's transitions (R21), what `NEXT` alone
and what nothing outside `Config` changes (R14, R15), the write rights and the commands out of order (R22, R23), and
the reset state (R30, R201). -/

namespace Sys2Proof.Safety

open Sys2Proof Sys2Proof.Machine

/-! ### The transitions of the protocol (R21) -/

theorem transition_fault {i : Instr} {p : PState} (hc : isCommand i = true) (hn : i ≠ .nop) (hp : p ≠ .fault) :
    transition i p .fault = true := by
  cases i with
  | nop => exact absurd rfl hn
  | wrr _ | rdr _ | wadd | lstart | bmatch | breset | launch | sync | next =>
    cases p <;> first | rfl | exact absurd rfl hp
  | lChk0 | lStart | lLoop | lChk | lCmp | lCas | lWrlo | lWrhi | lInc => cases hc

/-- Settles O50: of the ways an instruction can go, six change `pstate`, and each is a row of R21's table. -/
theorem protocolFollowsTheTable : Obligations.ProtocolFollowsTheTable := by
  intro i s t h hne
  cases executes_of_exec h with
  | refused | nothing | read | drawn | computed | held | stepped => exact absurd rfl hne
  | wrote => exact absurd (by simp) hne
  | faulted c hc hn hp => exact transition_fault hc hn hp
  | armed hp => obtain hp | hp := hp <;> rw [hp] <;> rfl
  | launched hp | synced hp | found hp => rw [hp]; rfl
  | advanced hp _ hq => obtain rfl | rfl := hq <;> rw [hp] <;> rfl

theorem mayFollow_refl (p : PState) : mayFollow p p = true := by
  simp [mayFollow]

theorem mayFollow_fault (p : PState) : mayFollow p .fault = true := by
  cases p <;> rfl

theorem mayFollow_of_transition {i : Instr} {p q : PState} (h : transition i p q = true) : mayFollow p q = true := by
  unfold transition at h
  split at h <;> first | rfl | exact mayFollow_fault _ | cases h

theorem exec_mayFollow {i : Instr} {s t : State} (h : exec i s = .next t) : mayFollow s.pstate t.pstate = true := by
  by_cases hne : t.pstate = s.pstate
  · rw [hne]
    exact mayFollow_refl _
  · exact mayFollow_of_transition (protocolFollowsTheTable i s t h hne)

theorem Turns.follows {u t : State} (h : Turns u t) : mayFollow u.pstate t.pstate = true := by
  cases h with
  | passed => exact mayFollow_refl _
  | illegal =>
    obtain hr | hf := illegalCommand_cases u
    · rw [hr]
      exact mayFollow_refl _
    · rw [hf.pstate]
      exact mayFollow_fault _
  | ran hx => exact exec_mayFollow hx

theorem step_mayFollow {s t : State} (hr : nextTurnIsReset s = false) (h : step s = .next t) :
    mayFollow s.pstate t.pstate = true := by
  obtain ⟨_, _, _, ht⟩ := turns_of_step hr h
  exact ht.follows

/-- No row of R21's table leads from a terminal state to one that is not. -/
theorem terminal_of_mayFollow {p q : PState} (h : mayFollow p q = true) (hp : terminal p = true) : terminal q = true := by
  cases p with
  | config | idle | armed | running | synced => cases hp
  | doneFound | doneExhausted | fault => cases q <;> first | rfl | cases h

/-- No row of R21's table enters `Config`. -/
theorem eq_config_of_mayFollow {p : PState} (h : mayFollow p .config = true) : p = .config := by
  cases p <;> first | rfl | cases h

/-- Settles O51: a turn that runs an instruction follows O50's rows, and an illegal word enters `Fault` or is refused. -/
theorem stepsFollowTheProtocol : Obligations.StepsFollowTheProtocol := fun _ _ hr h =>
  have hf := step_mayFollow hr h
  ⟨hf, terminal_of_mayFollow hf⟩

/-! ### What BASE, TOTAL and the parameters depend on (R14, R15) -/

/-- Settles O52: the effects other than `NEXT`'s write neither, and fault entry leaves them. -/
theorem onlyNextMovesTheBase : Obligations.OnlyNextMovesTheBase := by
  intro i s t h hi
  suffices progress t = progress s from ⟨congrArg Prod.fst this, congrArg Prod.snd this⟩
  cases executes_of_exec h with
  | refused | nothing | read | drawn | computed | armed | launched | synced | held | stepped => rfl
  | wrote => simp [progress, State.base]
  | faulted c => exact (raise_entersFault s c).progress_eq
  | found | advanced => exact absurd rfl hi

/-- The registers that `WRR` writes outside `Config` are no parameters (R23). -/
theorem writeReg_parameters (s : State) {r : Reg} (v : Word) (hw : mayWrite r s.pstate = true)
    (hp : s.pstate ≠ .config) : parameters (s.writeReg r v) = parameters s := by
  cases r <;> first | rfl | exact absurd (eq_of_beq hw) hp

theorem exec_parameters {i : Instr} {s t : State} (hp : s.pstate ≠ .config) (h : exec i s = .next t) :
    parameters t = parameters s := by
  cases executes_of_exec h with
  | refused | nothing | read | drawn | computed | armed | launched | synced | held | found | advanced | stepped => rfl
  | wrote _ hw => exact writeReg_parameters s _ hw hp
  | faulted c => exact (raise_entersFault s c).parameters_eq

theorem Turns.parameters_eq {u t : State} (h : Turns u t) (hp : u.pstate ≠ .config) : parameters t = parameters u := by
  cases h with
  | passed => rfl
  | illegal =>
    obtain hr | hf := illegalCommand_cases u
    · rw [hr]
      rfl
    · exact hf.parameters_eq
  | ran hx => exact exec_parameters hp hx

/-- Settles O53: outside `Config` no turn writes a parameter, and no row of R21's table leads back. -/
theorem parametersAreFrozen : Obligations.ParametersAreFrozen := by
  intro s t hp hr h
  obtain ⟨_, _, _, ht⟩ := turns_of_step hr h
  have heq := ht.parameters_eq hp
  simp only [parameters, Prod.mk.injEq] at heq
  obtain ⟨htgt, hlanes, hquota⟩ := heq
  exact ⟨htgt, hlanes, hquota, fun hc => hp (eq_config_of_mayFollow (hc ▸ step_mayFollow hr h))⟩

/-! ### The write rights and the commands out of order -/

/-- A `WRR` to an implemented register, outside `Running` and `Fault`, is decided by the write right (R23). -/
theorem exec_wrr_of_admitted {s : State} {n : RegNum} {r : Reg} (hr : Reg.ofNum n = some r)
    (ha : admission .wrr s.pstate = .ok) (hf : s.pstate ≠ .fault) :
    exec (.wrr n) s = .next (if mayWrite r s.pstate = true then (s.writeReg r s.cmd.wdata).respond false 0
      else s.raise .access) := by
  simp only [exec, execWrr, if_neg hf, hr, whenAdmitted_of_ok _ ha]

theorem admission_wrr {p : PState} (hr : p ≠ .running) (hf : p ≠ .fault) : admission .wrr p = .ok := by
  cases p <;> first | rfl | exact absurd rfl hr | exact absurd rfl hf

theorem regAccess_eq_rw {r : Reg} : regAccess r = .rw ↔ r ∈ [.opalo, .opahi, .opd, .opx, .opq] := by
  cases r <;> decide

theorem regAccess_eq_rwConfig {r : Reg} : regAccess r = .rwConfig ↔ r ∈ [.tgtlo, .tgthi, .lanes, .quota] := by
  cases r <;> decide

theorem regAccess_eq_ro {r : Reg} : regAccess r = .ro ↔ r ∈ [.baselo, .basehi, .flag, .fndlo, .fndhi, .total, .rsltlo,
    .rslthi, .status, .fcode, .finfo, .reslo, .reshi, .uflags] := by
  cases r <;> decide

/-- Settles O18: the access column of R12 decides whether the register may be written. -/
theorem writeRights : Obligations.WriteRights := by
  intro s n r hr hrun hf
  have ha := admission_wrr hrun hf
  have hx := exec_wrr_of_admitted hr ha hf
  have hwrites (hw : mayWrite r s.pstate = true) :
      exec (.wrr n) s = .next ((s.writeReg r s.cmd.wdata).respond false 0) := by rw [hx, if_pos hw]
  have htraps (hw : mayWrite r s.pstate = false) : ∃ t, exec (.wrr n) s = .next t ∧ EntersFault s t .access :=
    ⟨_, by rw [hx, hw]; rfl, raise_entersFault s .access⟩
  refine ⟨ha, regAccess_eq_rw, regAccess_eq_rwConfig, fun h => hwrites ?rw, fun h hc => hwrites ?config,
    fun h hc => htraps ?later, fun h => ⟨regAccess_eq_ro.mpr h, htraps ?ro⟩⟩
  case rw => simp only [mayWrite, regAccess_eq_rw.mpr h]
  case config => simp [mayWrite, regAccess_eq_rwConfig.mpr h, hc]
  case later => simp [mayWrite, regAccess_eq_rwConfig.mpr h, hc]
  case ro => simp only [mayWrite, regAccess_eq_ro.mpr h]

/-- The commands that access no register by number go through the row of the admission table in which the entries `P`
are those of `outOfOrder`. -/
theorem exec_eq_whenAdmitted {i : Instr} (s : State)
    (hi : i ∈ [.wadd, .lstart, .bmatch, .breset, .launch, .sync, .next]) :
    ∃ row effect, exec i s = .next (s.whenAdmitted row effect) ∧ admission row .fault = .refused ∧
      ∀ p, outOfOrder i p = true → admission row p = .protocol := by
  simp only [List.mem_cons, List.not_mem_nil, or_false] at hi
  obtain rfl | rfl | rfl | rfl | rfl | rfl | rfl := hi <;>
    exact ⟨_, _, rfl, rfl, fun p h => by cases p <;> first | rfl | cases h⟩

/-- Settles O30: by the row of the admission table, whose entry is `P` there and `X` in `Fault`. -/
theorem commandsOutOfOrderTrap : Obligations.CommandsOutOfOrderTrap := by
  intro i s hi
  obtain ⟨row, effect, hx, hfault, hproto⟩ := exec_eq_whenAdmitted s hi
  refine ⟨fun ho => ⟨_, hx, ?trap⟩, fun hf => ⟨_, hx, ?refusal⟩⟩
  case trap =>
    rw [whenAdmitted_of_protocol effect (hproto s.pstate ho)]
    exact raise_entersFault s .protocol
  case refusal =>
    rw [whenAdmitted_of_refused effect (hf ▸ hfault)]
    exact refuse_refused s

/-! ### Reset -/

/-- Every register of the reset state reads zero (R201). -/
theorem readReg_resetBlock (s : State) (level : Bool) (r : Reg) : (s.resetBlock level).readReg r = 0 := by
  cases r with
  | uflags => exact UFlags.word_zero
  | _ => rfl

theorem step_of_rst_turn {s : State} {level : Bool} {ts : List Turn} (h : s.env.turns = .rst level :: ts) :
    step s = .next ((s.withEnv { s.env with turns := ts }).driveRst level) := by
  simp only [step, fetch, h]

theorem driveRst_of_rst {s : State} (level : Bool) (h : s.rst = true) : s.driveRst level = s.resetBlock level := by
  simp [State.driveRst, h]

/-- Settles O47: from an input that is 1, driving 0 puts the block in the reset state. -/
theorem resetStateIsComplete : Obligations.ResetStateIsComplete := by
  intro s ts hts hrst
  have hstep := step_of_rst_turn hts
  rw [driveRst_of_rst (s := s.withEnv { s.env with turns := ts }) false hrst] at hstep
  exact ⟨_, hstep, readReg_resetBlock _ _, rfl, rfl, rfl, rfl, rfl⟩

end Sys2Proof.Safety
end

section
/-! PROOFS. Access to the shared state: what `RDR` answers (R44, R132), what a micro-operation may touch (R46), that claims
exclude each other (R47, R55), and that a claim lasts for the batch (R48). -/

namespace Sys2Proof.Safety

open Sys2Proof Sys2Proof.Machine

/-! ### Reading a register -/

/-- A response changes no register. -/
theorem readReg_respond (s : State) (err : Bool) (rdata : Word) (r : Reg) :
    (s.respond err rdata).readReg r = s.readReg r := by
  cases r <;> rfl

/-- An `RDR` of an implemented register, outside `Running` and `Fault`, answers the register (R132). -/
theorem exec_rdr_of_admitted {s : State} {n : RegNum} {r : Reg} (hr : Reg.ofNum n = some r)
    (ha : admission .rdr s.pstate = .ok) (hf : s.pstate ≠ .fault) :
    exec (.rdr n) s = .next (s.respond false (s.readReg r)) := by
  simp [exec, execRdr, hr, hf, whenAdmitted_of_ok _ ha]

theorem admission_rdr {p : PState} (hr : p ≠ .running) : admission .rdr p = .ok := by
  cases p <;> first | rfl | exact absurd rfl hr

/-- Settles O19: the response is no register, so the second read finds the value of the first. -/
theorem rdrAnswersTheRegister : Obligations.RdrAnswersTheRegister := by
  intro s n r hr hrun hf
  have ha := admission_rdr hrun
  have hagain := exec_rdr_of_admitted (s := s.respond false (s.readReg r)) hr ha hf
  rw [readReg_respond] at hagain
  exact ⟨exec_rdr_of_admitted hr ha hf, hagain⟩

/-! ### What a micro-operation does -/

/-- The ways a micro-operation `i` goes from `s`, `l` being the turn's lane: it moves the lane to a phase in which the lane
has nothing to write and touches nothing else, or it is a winning claim or one of the two writes (R106 to R114). -/
inductive LaneEffect (s : State) (l : Lane) : Instr → State → Prop
  | moved {i : Instr} (m : Lane) : isWriter m.phase = false → LaneEffect s l i (s.setLane m)
  | won : s.flag = false → LaneEffect s l .lCas (s.claim.setLane { l with won := true, phase := .wrlo })
  | wroteLow : l.phase = .wrlo →
      LaneEffect s l .lWrlo ((s.withFndlo l.cand.lo).setLane { l with phase := .wrhi })
  | wroteHigh : LaneEffect s l .lWrhi ((s.withFndhi l.cand.hi).setLane { l with phase := .ret })

/-- A micro-operation goes the way its effect goes on the turn's lane, which stands in its phase (R104). -/
theorem laneEffect_of_laneStep {s t : State} {i : Instr} {p : Phase} {effect : Lane → State}
    (heffect : ∀ l, l.phase = p → LaneEffect s l i (effect l)) (h : s.laneStep p effect = .next t) :
    ∃ l, s.ctx[s.env.lane]? = some l ∧ LaneEffect s l i t := by
  obtain ⟨l, _, hl, hp, rfl⟩ := s.laneStep_eq_next.mp h
  exact ⟨l, hl, heffect l hp⟩

/-- Every next state of a micro-operation is one of the cases of `LaneEffect`. -/
theorem laneEffect_of_exec {i : Instr} {s t : State} (hi : isCommand i = false) (h : exec i s = .next t) :
    ∃ l, s.ctx[s.env.lane]? = some l ∧ LaneEffect s l i t := by
  cases i with
  | nop | wrr _ | rdr _ | wadd | lstart | bmatch | breset | launch | sync | next => cases hi
  | lStart | lInc => exact laneEffect_of_laneStep (fun l _ => .moved _ rfl) h
  | lChk0 | lLoop | lChk | lCmp => exact laneEffect_of_laneStep (fun l _ => .moved _ (by dsimp only; split <;> rfl)) h
  | lCas =>
    refine laneEffect_of_laneStep (fun l _ => ?_) h
    split
    · exact .moved _ rfl
    · next hf => exact .won (by simpa using hf)
  | lWrlo => exact laneEffect_of_laneStep (fun l hp => .wroteLow hp) h
  | lWrhi => exact laneEffect_of_laneStep (fun l _ => .wroteHigh) h

/-! ### The access matrix (R46) -/

/-- Only BatchState and the turn's lane are in reach of a micro-operation. -/
theorem LaneEffect.touches {s t : State} {l : Lane} {i : Instr} (h : LaneEffect s l i t) :
    ∃ f lo hi m, t = { s with flag := f, fndlo := lo, fndhi := hi }.setLane m := by
  cases h <;> exact ⟨_, _, _, _, rfl⟩

/-- Each register of BatchState has one micro-operation that writes it. -/
theorem LaneEffect.writers {s t : State} {l : Lane} {i : Instr} (h : LaneEffect s l i t) :
    (i ≠ .lCas → t.flag = s.flag) ∧ (i ≠ .lWrlo → t.fndlo = s.fndlo) ∧ (i ≠ .lWrhi → t.fndhi = s.fndhi) := by
  cases h with
  | moved => exact ⟨fun _ => rfl, fun _ => rfl, fun _ => rfl⟩
  | won => exact ⟨absurd rfl, fun _ => rfl, fun _ => rfl⟩
  | wroteLow => exact ⟨fun _ => rfl, absurd rfl, fun _ => rfl⟩
  | wroteHigh => exact ⟨fun _ => rfl, fun _ => rfl, absurd rfl⟩

theorem readReg_of_not_batchState (s : State) (f : Bool) (lo hi : Word) (m : Lane) {r : Reg}
    (hr : r ∉ [.flag, .fndlo, .fndhi]) :
    ({ s with flag := f, fndlo := lo, fndhi := hi }.setLane m).readReg r = s.readReg r := by
  cases r with
  | flag | fndlo | fndhi => simp at hr
  | _ => rfl

/-- Settles O39: the lane and BatchState are all that is in reach, and each register there has its own writer. -/
theorem laneAccessMatrix : Obligations.LaneAccessMatrix := by
  intro i s t hc h
  obtain ⟨l, _, he⟩ := laneEffect_of_exec hc h
  obtain ⟨hflag, hlo, hhi⟩ := he.writers
  obtain ⟨f, lo, hi, m, rfl⟩ := he.touches
  exact ⟨fun r hr => readReg_of_not_batchState s f lo hi m hr, hflag, hlo, hhi,
    fun j hj => List.getElem?_set_ne hj.symm, List.length_set, rfl, rfl, rfl, rfl, rfl, rfl⟩

/-! ### Claims exclude each other (R47, R55) -/

/-- Lane `i` has won its claim and has still to write. -/
def WriterAt (s : State) (i : Nat) : Prop := ∃ l, s.ctx[i]? = some l ∧ isWriter l.phase = true

theorem claimOk_iff (s : State) :
    ClaimOk s ↔ (∀ i, WriterAt s i → s.flag = true) ∧ ∀ i j, WriterAt s i → WriterAt s j → i = j := by
  constructor
  · rintro ⟨hclaimed, hone⟩
    exact ⟨fun i ⟨l, hl, hw⟩ => hclaimed i l hl hw, fun i j ⟨l, hl, hw⟩ ⟨m, hm, hv⟩ => hone i j l m hl hm hw hv⟩
  · rintro ⟨hclaimed, hone⟩
    exact ⟨fun i l hl hw => hclaimed i ⟨l, hl, hw⟩, fun i j l m hl hm hw hv => hone i j ⟨l, hl, hw⟩ ⟨m, hm, hv⟩⟩

/-- Only the turn's lane can become a writer. -/
theorem WriterAt.of_setLane {s : State} {m : Lane} {j : Nat} (h : WriterAt (s.setLane m) j) :
    (j = s.env.lane ∧ isWriter m.phase = true) ∨ WriterAt s j := by
  obtain ⟨l, hl, hw⟩ := h
  rw [s.setLane_getElem?] at hl
  split at hl
  · next hj =>
    split at hl
    · cases hl
      exact .inl ⟨hj.symm, hw⟩
    · cases hl
  · exact .inr ⟨l, hl, hw⟩

/-- Without a new writer the condition is kept. -/
theorem ClaimOk.of_writers {s t : State} (h : ClaimOk s) (hw : ∀ j, WriterAt t j → WriterAt s j)
    (hf : t.flag = s.flag) : ClaimOk t := by
  obtain ⟨hclaimed, hone⟩ := (claimOk_iff s).mp h
  exact (claimOk_iff t).mpr ⟨fun i hi => hf.trans (hclaimed i (hw i hi)), fun i j hi hj => hone i j (hw i hi) (hw j hj)⟩

/-- While the flag is unset no lane is a writer, so a winning claim makes the only one. -/
theorem ClaimOk.won {s : State} (h : ClaimOk s) (hf : s.flag = false) (m : Lane) : ClaimOk (s.claim.setLane m) := by
  have hnone : ∀ j, ¬ WriterAt s j := fun j hj =>
    Bool.false_ne_true (hf.symm.trans (((claimOk_iff s).mp h).1 j hj))
  have hwinner : ∀ j, WriterAt (s.claim.setLane m) j → j = s.env.lane := fun j hj =>
    hj.of_setLane.elim (·.1) (absurd · (hnone j))
  exact (claimOk_iff _).mpr ⟨fun _ _ => rfl, fun i j hi hj => (hwinner i hi).trans (hwinner j hj).symm⟩

/-- Settles O40: only a winning claim makes a writer, and it finds the flag unset; the first write keeps the writer that
there was. -/
theorem claimsExcludeEachOther : Obligations.ClaimsExcludeEachOther := by
  intro i s t hi hok h
  obtain ⟨l, hl, he⟩ := laneEffect_of_exec hi h
  cases he with
  | moved m hm => exact hok.of_writers (fun j hj => hj.of_setLane.resolve_left (by simp [hm])) rfl
  | won hf => exact hok.won hf _
  | wroteLow hp =>
    have hwriter : WriterAt s s.env.lane := ⟨l, hl, by rw [hp]; rfl⟩
    exact hok.of_writers (fun j hj => hj.of_setLane.elim (fun hj => hj.1 ▸ hwriter) id) rfl
  | wroteHigh => exact hok.of_writers (fun j hj => hj.of_setLane.resolve_left (by simp [isWriter])) rfl

/-! ### A claim lasts for the batch (R48) -/

/-- An instruction that ends in `Running` leaves a claim: only `BRESET` and fault entry unset the flag. -/
theorem exec_flag_of_running {i : Instr} {s t : State} (h : exec i s = .next t) (ht : t.pstate = .running)
    (hf : s.flag = true) : t.flag = true := by
  cases executes_of_exec h with
  | refused | nothing | read | drawn | computed | launched | synced | held | found | advanced => exact hf
  | wrote => simpa using hf
  | faulted | armed => cases ht
  | stepped _ _ _ _ _ _ hkeeps => exact hkeeps hf

theorem Turns.flag_of_running {u t : State} (h : Turns u t) (ht : t.pstate = .running) (hf : u.flag = true) :
    t.flag = true := by
  cases h with
  | passed => exact hf
  | illegal =>
    obtain hr | he := illegalCommand_cases u
    · rw [hr]
      exact hf
    · cases he.pstate.symm.trans ht
  | ran hx => exact exec_flag_of_running hx ht hf

/-- Settles O54: a step is a turn, and one that ends in `Running` leaves a claim. -/
theorem flagIsClaimedForTheBatch : Obligations.FlagIsClaimedForTheBatch := by
  intro s t _ ht hr h hf
  obtain ⟨_, _, _, hturn⟩ := turns_of_step hr h
  exact hturn.flag_of_running ht hf

end Sys2Proof.Safety
end

section
/-! PROOFS. Encoding and decoding (R61, R62, R66, R68, R71). The words that decode are those that some instruction
encodes to, and these are the well-formed ones: a decoded word is the encoding of what it decodes to, every encoding is
well formed, and well-formed fields are the fields of an encoding. -/

namespace Sys2Proof

/-! ### Words and their fields (R61) -/

/-- The word joined from the fields of a word is that word. -/
theorem joinWord_splitWord (w : CmdWord) : joinWord (splitWord w) = w := by
  apply BitVec.eq_of_toNat_eq
  have hw := w.isLt
  simp only [Laws.joinWord_toNat, splitWord, BitVec.extractLsb'_toNat, Nat.shiftRight_eq_div_pow]
  omega

theorem decode_commandWord (op : BitVec 8) (reg : RegNum) :
    decode (commandWord op reg) = decodeFields { op := op, reg := reg, zero := 0#16 } := by
  simp only [commandWord, decode, decodeCommand, Laws.splitWord_joinWord]

/-- A command word as a number (R62). -/
theorem commandWord_eq_ofNat (op : BitVec 8) (reg : RegNum) :
    commandWord op reg = .command (BitVec.ofNat 32 (op.toNat * 2 ^ 24 + reg.toNat * 2 ^ 16)) := by
  refine congrArg Code.command (BitVec.eq_of_toNat_eq ?_)
  have hop := op.isLt
  have hreg := reg.isLt
  simp only [Laws.joinWord_toNat, BitVec.toNat_ofNat]
  omega

/-! ### Phase codes (R68) -/

theorem Phase.code_of_ofCode {c : BitVec 4} {p : Phase} (h : Phase.ofCode c = some p) : p.code = c := by
  have := List.find?_some h
  simpa using this

/-- A phase has at most one micro-operation, and its code is the phase's. -/
theorem encode_of_phaseInstr {p : Phase} {i : Instr} (h : phaseInstr p = .ok i) : encode i = .phase p.code := by
  cases p with
  | chk0 | start | loop | chk | cmp | cas | wrlo | wrhi | inc => cases h; rfl
  | ret => cases h

theorem encode_of_decodePhase {c : BitVec 4} {i : Instr} (h : decodePhase c = .ok i) : encode i = .phase c := by
  unfold decodePhase at h
  split at h
  · next p hp => rw [encode_of_phaseInstr h, Phase.code_of_ofCode hp]
  · cases h

/-! ### The round trip (R71) -/

/-- Settles O9: the fields of a joined word are those it was joined from, and R71's tests on them find the command; a
phase's code finds the phase. -/
theorem decodeOfEncode : Obligations.DecodeOfEncode := by
  intro i
  cases i with
  | nop | wrr _ | rdr _ | wadd | lstart | bmatch | breset | launch | sync | next => exact decode_commandWord _ _
  | lChk0 | lStart | lLoop | lChk | lCmp | lCas | lWrlo | lWrhi | lInc =>
    simp only [encode, decode, decodePhase_code, phaseInstr]

/-- The word with given fields, ZERO clear, is the command word of R62. -/
theorem commandWord_of_fields {f : CmdFields} {op : BitVec 8} {reg : RegNum} (hzero : f.zero = 0#16) (hop : f.op = op)
    (hreg : f.reg = reg) : commandWord op reg = .command (joinWord f) := by
  subst hop hreg
  rw [commandWord, ← hzero]

/-- The result of a decoder that answers, if anything, the command with given fields. -/
def EncodedBy (f : CmdFields) (e : Except Reject Instr) : Prop := ∀ i, e = .ok i → encode i = .command (joinWord f)

theorem EncodedBy.error {f : CmdFields} (r : Reject) : EncodedBy f (.error r) := by
  intro i h
  cases h

theorem EncodedBy.ok {f : CmdFields} {i : Instr} (hi : encode i = .command (joinWord f)) : EncodedBy f (.ok i) := by
  intro j h
  cases h
  exact hi

theorem EncodedBy.ite {f : CmdFields} {c : Prop} [Decidable c] {a b : Except Reject Instr} (ha : c → EncodedBy f a)
    (hb : ¬c → EncodedBy f b) : EncodedBy f (if c then a else b) :=
  iteInduction ha hb

/-- R71's tests, one after the other: each that accepts has found the fields of the command it answers. -/
theorem decodeFields_encodedBy (f : CmdFields) : EncodedBy f (decodeFields f) := by
  unfold decodeFields
  refine .ite (fun _ => .error _) fun hz => ?_
  have hzero : f.zero = 0#16 := of_not_not hz
  refine .ite (fun hop => .ok (commandWord_of_fields hzero hop rfl)) fun _ => ?_
  refine .ite (fun hop => .ok (commandWord_of_fields hzero hop rfl)) fun _ => ?_
  refine .ite (fun _ => .error _) fun hr => ?_
  have hreg : f.reg = 0#8 := of_not_not hr
  have hlisted {op : BitVec 8} {i : Instr} (hi : encode i = commandWord op 0#8) (hop : f.op = op) :
      EncodedBy f (.ok i) := .ok (hi.trans (commandWord_of_fields hzero hop hreg))
  exact .ite (hlisted rfl) fun _ => .ite (hlisted rfl) fun _ => .ite (hlisted rfl) fun _ => .ite (hlisted rfl) fun _ =>
    .ite (hlisted rfl) fun _ => .ite (hlisted rfl) fun _ => .ite (hlisted rfl) fun _ => .ite (hlisted rfl) fun _ =>
      .error _

theorem encode_of_decodeCommand {w : CmdWord} {i : Instr} (h : decodeCommand w = .ok i) : encode i = .command w := by
  rw [decodeFields_encodedBy _ i h, joinWord_splitWord]

/-- Settles O10: in each of the two code spaces, what is decoded is the encoding of the answer. -/
theorem encodeOfDecode : Obligations.EncodeOfDecode := by
  intro c i h
  cases c with
  | command w => exact encode_of_decodeCommand h
  | phase c => exact encode_of_decodePhase h

/-! ### The words that decode (R66) -/

/-- R66's three grounds are absent. -/
theorem CmdFields.wellFormed_iff (f : CmdFields) :
    f.wellFormed = true ↔ f.zero = 0#16 ∧
      f.op ∈ [0x00#8, 0x01#8, 0x02#8, 0x10#8, 0x11#8, 0x12#8, 0x20#8, 0x21#8, 0x22#8, 0x23#8] ∧
      (usesReg f.op = true ∨ f.reg = 0#8) := by
  simp only [wellFormed, zeroClear, opListed, listedOp, regClear, Bool.and_eq_true, Bool.or_eq_true, beq_iff_eq,
    List.contains_iff_mem, and_assoc]

/-- The word of a host command is well formed. -/
theorem wellFormed_of_encode {i : Instr} {w : CmdWord} (h : encode i = .command w) :
    (splitWord w).wellFormed = true := by
  have hi : Laws.EncodesWellFormed.Statement i := by
    cases i with
    | nop => exact Laws.EncodesWellFormed.nop
    | wrr reg => exact Laws.EncodesWellFormed.wrr reg
    | rdr reg => exact Laws.EncodesWellFormed.rdr reg
    | wadd => exact Laws.EncodesWellFormed.wadd
    | lstart => exact Laws.EncodesWellFormed.lstart
    | bmatch => exact Laws.EncodesWellFormed.bmatch
    | breset => exact Laws.EncodesWellFormed.breset
    | launch => exact Laws.EncodesWellFormed.launch
    | sync => exact Laws.EncodesWellFormed.sync
    | next => exact Laws.EncodesWellFormed.next
    | lChk0 | lStart | lLoop | lChk | lCmp | lCas | lWrlo | lWrhi | lInc => cases h
  simpa only [Laws.EncodesWellFormed.Statement, h] using hi

/-- Well-formed fields are those of a command (R62). -/
theorem CmdFields.encode_of_wellFormed {f : CmdFields} (h : f.wellFormed = true) :
    ∃ i, encode i = .command (joinWord f) := by
  obtain ⟨hzero, hop, hreg⟩ := f.wellFormed_iff.mp h
  have hlisted (i : Instr) {op : BitVec 8} (hi : encode i = commandWord op 0#8) (hu : usesReg op = false)
      (h : f.op = op) : ∃ i, encode i = .command (joinWord f) :=
    ⟨i, hi.trans (commandWord_of_fields hzero h (hreg.resolve_left (by simp [h, hu])))⟩
  simp only [List.mem_cons, List.not_mem_nil, or_false] at hop
  obtain h | h | h | h | h | h | h | h | h | h := hop
  · exact hlisted .nop rfl rfl h
  · exact ⟨.wrr f.reg, commandWord_of_fields hzero h rfl⟩
  · exact ⟨.rdr f.reg, commandWord_of_fields hzero h rfl⟩
  · exact hlisted .wadd rfl rfl h
  · exact hlisted .lstart rfl rfl h
  · exact hlisted .bmatch rfl rfl h
  · exact hlisted .breset rfl rfl h
  · exact hlisted .launch rfl rfl h
  · exact hlisted .sync rfl rfl h
  · exact hlisted .next rfl rfl h

theorem decodeCommand_eq_ok_iff (w : CmdWord) :
    (∃ i, decodeCommand w = .ok i) ↔ (splitWord w).wellFormed = true := by
  constructor
  · rintro ⟨i, h⟩
    exact wellFormed_of_encode (encode_of_decodeCommand h)
  · intro h
    obtain ⟨i, hi⟩ := CmdFields.encode_of_wellFormed h
    have hd := decodeOfEncode i
    rw [hi, joinWord_splitWord] at hd
    exact ⟨i, hd⟩

/-- Settles O11: the words that decode are the encodings, and a word is the join of its fields. -/
theorem decodeAcceptsTheWellFormedWords : Obligations.DecodeAcceptsTheWellFormedWords := fun w =>
  ⟨decodeCommand_eq_ok_iff w, by rw [← Laws.joinWord_toNat, joinWord_splitWord]⟩

/-- A row of R68's table: a phase, its code and the micro-operation of its name. -/
theorem phaseCode_row {p : Phase} {i : Instr} {c : BitVec 4} (hi : phaseInstr p = .ok i) (hc : p.code = c) :
    encode i = .phase c ∧ p.code = c ∧ decodePhase c = .ok i := by
  subst hc
  exact ⟨encode_of_phaseInstr hi, rfl, (decodePhase_code p).trans hi⟩

/-- Settles O12: a command word as a number, and R68's table row by row. -/
theorem commandWords : Obligations.CommandWords := by
  refine ⟨commandWord_eq_ofNat 0x01#8, commandWord_eq_ofNat 0x02#8, rfl, rfl, rfl, rfl, rfl, rfl, rfl, rfl,
    fun e he => ?phases, rfl, rfl⟩
  case phases =>
    simp only [List.mem_cons, List.not_mem_nil, or_false] at he
    obtain rfl | rfl | rfl | rfl | rfl | rfl | rfl | rfl | rfl := he <;> exact phaseCode_row rfl rfl

/-- Settles O13: by R71's decoding of each word and R68's of each code. -/
theorem sampleCodesDecode : Obligations.SampleCodesDecode := ⟨rfl, rfl, rfl, rfl, rfl, rfl⟩

end Sys2Proof
end

section
/-! PROOFS. What a turn runs (R60, R66, R68, R71): the decoded command or micro-operation, a held `SYNC` again, or the
fault of an illegal word; and what a held `SYNC` leaves to the other turns (R60, R136). -/

namespace Sys2Proof.Safety

open Sys2Proof Sys2Proof.Machine

/-! ### The turn and its instruction -/

theorem fetch_of_host_turn {s : State} {f : Bool} {ts : List Turn} (h : s.env.turns = .host f :: ts) :
    fetch s = fetchHost (s.withEnv { s.env with turns := ts, dispatchFails := f }) := by
  simp only [fetch, h]

theorem fetch_of_lane_turn {s : State} {k : Nat} {b : Bool} {ts : List Turn} (h : s.env.turns = .lane k b :: ts) :
    fetch s = fetchLane (s.withEnv { s.env with turns := ts, lane := k, stale := b }) := by
  simp only [fetch, h]

theorem step_of_fetch_run {s u : State} {i : Instr} (h : fetch s = .run i u) : step s = exec i u := by
  simp only [step, h]

theorem step_of_fetch_settled {s u : State} (h : fetch s = .settled u) : step s = .next u := by
  simp only [step, h]

/-- A held `SYNC` is tried again, whatever is offered (R136). -/
theorem fetchHost_of_held {s : State} (hr : s.rst = false) (hp : s.syncPending = true) :
    fetchHost s = .run .sync s := by
  simp [fetchHost, hr, hp]

/-- An offered command is accepted and decoded (R60, R71). -/
theorem fetchHost_of_decoded {s : State} {c : HostCommand} {rest : List HostCommand} {i : Instr} (hr : s.rst = false)
    (hp : s.syncPending = false) (ho : s.env.offers = c :: rest) (hd : decodeCommand c.word = .ok i) :
    fetchHost s = .run i (s.accept c rest) := by
  simp [fetchHost, hr, hp, ho, hd]

/-- An offered word that is no command takes its fault (R66). -/
theorem fetchHost_of_illegal {s : State} {c : HostCommand} {rest : List HostCommand} {e : Reject} (hr : s.rst = false)
    (hp : s.syncPending = false) (ho : s.env.offers = c :: rest) (hd : decodeCommand c.word = .error e) :
    fetchHost s = .settled (s.accept c rest).illegalCommand := by
  simp [fetchHost, hr, hp, ho, hd]

/-- The turn's lane runs the micro-operation of its phase (R68). -/
theorem fetchLane_of_decoded {s : State} {l : Lane} {i : Instr} (hr : s.rst = false) (hl : s.turnLane = some l)
    (hd : decodePhase l.phase.code = .ok i) : fetchLane s = .run i s := by
  rw [decodePhase_code] at hd
  simp [fetchLane, hr, hl, hd]

/-- Settles O45: one clause for each of the three turns that run an instruction. -/
theorem stepRunsTheDecodedInstruction : Obligations.StepRunsTheDecodedInstruction := by
  refine ⟨fun s c rest f ts i hts hr hp ho hd => ?command, fun s k b ts l i hts hr hrun hl hd => ?lane,
    fun s f ts hts hr hp => ?held⟩
  case command => exact step_of_fetch_run ((fetch_of_host_turn hts).trans (fetchHost_of_decoded hr hp ho hd))
  case lane =>
    have hturn : (s.withEnv { s.env with turns := ts, lane := k, stale := b }).turnLane = some l :=
      (State.turnLane_eq_some _).mpr ⟨hrun, hl⟩
    exact step_of_fetch_run ((fetch_of_lane_turn hts).trans (fetchLane_of_decoded hr hturn hd))
  case held => exact step_of_fetch_run ((fetch_of_host_turn hts).trans (fetchHost_of_held hr hp))

/-! ### Illegal words (R66) -/

/-- A word on which one of R66's three grounds stands is rejected. -/
theorem decodeCommand_eq_error {w : CmdWord}
    (h : (splitWord w).zero ≠ 0 ∨
      (splitWord w).op ∉ [0x00#8, 0x01#8, 0x02#8, 0x10#8, 0x11#8, 0x12#8, 0x20#8, 0x21#8, 0x22#8, 0x23#8] ∨
      ((splitWord w).op ∈ [0x00#8, 0x10#8, 0x11#8, 0x12#8, 0x20#8, 0x21#8, 0x22#8, 0x23#8] ∧
        (splitWord w).reg ≠ 0)) :
    ∃ e, decodeCommand w = .error e := by
  cases hd : decodeCommand w with
  | error e => exact ⟨e, rfl⟩
  | ok i =>
    obtain ⟨hzero, hop, hreg⟩ := (splitWord w).wellFormed_iff.mp ((decodeCommand_eq_ok_iff w).mp ⟨i, hd⟩)
    have hunused : ∀ op ∈ [0x00#8, 0x10#8, 0x11#8, 0x12#8, 0x20#8, 0x21#8, 0x22#8, 0x23#8], usesReg op = false := by
      decide
    obtain h | h | ⟨hmem, h⟩ := h
    · exact absurd hzero h
    · exact absurd hop h
    · exact absurd (hreg.resolve_left (by simp [hunused _ hmem])) h

/-- Fault entry and refusal present a response of their own, whatever was presented before. -/
theorem illegalCommand_withRsp (s : State) (r : Response) :
    ({ s with rsp := r } : State).illegalCommand = s.illegalCommand := by
  by_cases hr : s.pstate = .running
  · simp [State.illegalCommand, hr, State.raise_of_running, State.respond]
  · simp [State.illegalCommand, hr, State.raise_of_not_running, State.refuse, State.respond]

theorem illegalCommand_accept (s : State) (c : HostCommand) (rest : List HostCommand) :
    (s.accept c rest).illegalCommand =
      ({ s with cmd := c, env := { s.env with offers := rest } } : State).illegalCommand :=
  illegalCommand_withRsp { s with cmd := c, env := { s.env with offers := rest } } Response.none

theorem illegalCommand_entersFault {s : State} (h : s.pstate ≠ .fault) :
    EntersFault s s.illegalCommand .illegalCmd := by
  rw [State.illegalCommand, if_neg h]
  exact raise_entersFault s .illegalCmd

theorem illegalCommand_finfo {s : State} (h : s.pstate ≠ .fault) : s.illegalCommand.finfo = s.cmd.word :=
  (illegalCommand_entersFault h).finfo

theorem illegalCommand_refused {s : State} (h : s.pstate = .fault) : Refused s s.illegalCommand := by
  rw [State.illegalCommand, if_pos h]
  exact refuse_refused s

/-- Settles O44: the word is rejected, and the port's turn settles in its fault or refusal. -/
theorem illegalWordsFault : Obligations.IllegalWordsFault := by
  intro s c rest f ts hts hr hp ho hill
  obtain ⟨e, hd⟩ := decodeCommand_eq_error hill
  have hstep := step_of_fetch_settled ((fetch_of_host_turn hts).trans (fetchHost_of_illegal hr hp ho hd))
  rw [illegalCommand_accept] at hstep
  exact ⟨_, hstep, fun hf => ⟨illegalCommand_entersFault hf, illegalCommand_finfo hf⟩,
    fun hf => illegalCommand_refused hf⟩

/-! ### The port while a `SYNC` is held (R136) -/

/-- What a turn may do to the command port while a `SYNC` is held: it takes no offer, and it leaves the `SYNC` held with
nothing new presented, or it is the completion of the `SYNC`. -/
def PortHeld (s t : State) : Prop :=
  t.env.offers = s.env.offers ∧ t.cmd = s.cmd ∧
    ((t.syncPending = true ∧ t.pstate = .running ∧ (t.rsp = s.rsp ∨ t.rsp = Response.none)) ∨
      (t.syncPending = false ∧ t.pstate = .synced ∧ t.rsp = okResponse 0))

theorem exec_sync_of_running {s : State} (h : s.pstate = .running) :
    exec .sync s =
      .next (if s.allReturned = true then (s.discardLanes.withPState .synced).respond false 0 else s.holdSync) := by
  simp only [exec, execSync, State.whenAdmitted, h, admission]

theorem exec_sync_portHeld {s t : State} (hrun : s.pstate = .running) (h : exec .sync s = .next t) : PortHeld s t := by
  rw [exec_sync_of_running hrun] at h
  cases h
  split
  · exact ⟨rfl, rfl, .inr ⟨rfl, rfl, rfl⟩⟩
  · exact ⟨rfl, rfl, .inl ⟨rfl, hrun, .inr rfl⟩⟩

theorem isCommand_of_phaseInstr {p : Phase} {i : Instr} (h : phaseInstr p = .ok i) : isCommand i = false := by
  simp only [isCommand, encode_of_phaseInstr h]

/-- A micro-operation does not reach the port (R46). -/
theorem exec_micro_portHeld {s t : State} {i : Instr} (hrun : s.pstate = .running) (hp : s.syncPending = true)
    (hi : isCommand i = false) (h : exec i s = .next t) : PortHeld s t := by
  obtain ⟨l, _, he⟩ := laneEffect_of_exec hi h
  obtain ⟨f, lo, hi, m, rfl⟩ := he.touches
  exact ⟨rfl, rfl, .inl ⟨hp, hrun, .inl rfl⟩⟩

theorem portHeld_refl {s : State} (hrun : s.pstate = .running) (hp : s.syncPending = true) : PortHeld s s :=
  ⟨rfl, rfl, .inl ⟨hp, hrun, .inl rfl⟩⟩

theorem PortHeld.of_withEnv {s t : State} {e : Env} (h : PortHeld (s.withEnv e) t) (he : e.offers = s.env.offers) :
    PortHeld s t := by
  obtain ⟨hoffers, hcmd, hrsp⟩ := h
  exact ⟨hoffers.trans he, hcmd, hrsp⟩

theorem fetchHost_portHeld {s t : State} (h : Reaches (fetchHost s) t) (hr : s.rst = false) (hrun : s.pstate = .running)
    (hp : s.syncPending = true) : PortHeld s t := by
  rw [fetchHost_of_held hr hp] at h
  exact exec_sync_portHeld hrun h

theorem fetchLane_portHeld {s t : State} (h : Reaches (fetchLane s) t) (hrun : s.pstate = .running)
    (hp : s.syncPending = true) : PortHeld s t := by
  obtain ⟨_, hf⟩ | ⟨l, i, _, _, hi, hf⟩ := fetchLane_cases s <;> rw [hf, Reaches] at h
  · exact h ▸ portHeld_refl hrun hp
  · exact exec_micro_portHeld hrun hp (isCommand_of_phaseInstr hi) h

/-- Settles O49: the port's turn tries the `SYNC` again, and a lane's turn does not reach the port. -/
theorem heldSyncBlocksThePort : Obligations.HeldSyncBlocksThePort := by
  intro s t hp hrun hr hnr h
  suffices PortHeld s t from this
  rw [step_eq_next_iff, fetch] at h
  split at h
  · exact h ▸ portHeld_refl hrun hp
  · exact (fetchHost_portHeld h hr hrun hp).of_withEnv rfl
  · exact (fetchLane_portHeld h hrun hp).of_withEnv rfl
  · next hts => simp [nextTurnIsReset, hts] at hnr

end Sys2Proof.Safety
end

section
/-! PROOFS. The wide counter (R80, R81, R82): the adder at every width of its halves, the block's `add` with its six
laws, and the command `WADD` that runs it once. The adder's rule is a balance per half: the half of the result with the
carry it sends out is the exact sum of what went in. -/

namespace Sys2Proof.Machine

/-! ### The adder at every width -/

/-- A half that balances with the bit it sends out is the sum modulo the width, and the bit tells whether it wrapped. -/
theorem mod_and_wraps_of_balance {n m b : Nat} {c : Bool} (h : n + c.toNat * b = m) (hn : n < b) :
    n = m % b ∧ (c = true ↔ b ≤ m) := by
  subst h
  cases c <;> simp [Nat.mod_eq_of_lt hn, hn]

theorem carries_toNat {w : Nat} (a d : BitVec w) :
    (carries a d).toNat = if 2 ^ w ≤ a.toNat + d.toNat then 1 else 0 := by
  simp only [← carries_iff]
  cases carries a d <;> rfl

theorem overflows_iff {w : Nat} (alo ahi d : BitVec w) :
    overflows alo ahi d = true ↔ carries alo d = true ∧ ahi.toNat = 2 ^ w - 1 := by
  rw [overflows, Bool.and_eq_true, decide_eq_true_iff, ← BitVec.toNat_inj, BitVec.toNat_allOnes]

/-- The low half with the carry it sends out is the exact sum. -/
theorem addHalves_low_balance {w : Nat} (alo ahi d : BitVec w) :
    (addHalves alo ahi d).1.toNat + (carries alo d).toNat * 2 ^ w = alo.toNat + d.toNat := by
  have hlo : (addHalves alo ahi d).1.toNat = (alo.toNat + d.toNat) % 2 ^ w := BitVec.toNat_add alo d
  have ha := alo.isLt
  have hd := d.isLt
  rw [hlo, carries_toNat]
  split
  · next h => rw [Nat.mod_eq_sub_mod h, Nat.mod_eq_of_lt (by omega)]; omega
  · next h => rw [Nat.mod_eq_of_lt (by omega)]; omega

/-- The high half with the overflow it sends out is its old value and the carry from below. -/
theorem addHalves_high_balance {w : Nat} (alo ahi d : BitVec w) :
    (addHalves alo ahi d).2.1.toNat + (addHalves alo ahi d).2.2.toNat * 2 ^ w =
      ahi.toNat + (carries alo d).toNat := by
  have hhi : (addHalves alo ahi d).2.1 = if carries alo d = true then ahi + 1#w else ahi := rfl
  have hov : (addHalves alo ahi d).2.2 = overflows alo ahi d := rfl
  have htop := overflows_iff alo ahi d
  have ha := ahi.isLt
  rw [hhi, hov]
  cases hc : carries alo d with
  | false => simp [overflows, hc]
  | true =>
    have hinc : (ahi + 1#w).toNat = (ahi.toNat + 1) % 2 ^ w := by simp
    rw [if_pos rfl, hinc]
    by_cases h : ahi.toNat = 2 ^ w - 1
    · have hwrap : ahi.toNat + 1 = 2 ^ w := by omega
      simp [htop.mpr ⟨hc, h⟩, hwrap]
    · have hfits : ahi.toNat + 1 < 2 ^ w := by omega
      simp [Bool.eq_false_iff.mpr fun ho => h (htop.mp ho).2, Nat.mod_eq_of_lt hfits]

/-- The whole result with the overflow is the exact sum: the two halves' balances, the carry between them cancelled. -/
theorem addHalves_balance {w : Nat} (alo ahi d : BitVec w) :
    (addHalves alo ahi d).2.1.toNat * 2 ^ w + (addHalves alo ahi d).1.toNat +
      (addHalves alo ahi d).2.2.toNat * 2 ^ (2 * w) = ahi.toNat * 2 ^ w + alo.toNat + d.toNat := by
  have hlow := addHalves_low_balance alo ahi d
  have hhigh := addHalves_high_balance alo ahi d
  rw [two_mul, pow_add]
  linear_combination 2 ^ w * hhigh + hlow

/-! ### The block's adder -/

theorem add_low_balance (a : Wide) (d : Word) :
    (add a d).1.lo.toNat + (carries a.lo d).toNat * 2 ^ 64 = a.lo.toNat + d.toNat :=
  addHalves_low_balance a.lo a.hi d

theorem add_high_balance (a : Wide) (d : Word) :
    (add a d).1.hi.toNat + (add a d).2.toNat * 2 ^ 64 = a.hi.toNat + (carries a.lo d).toNat :=
  addHalves_high_balance a.lo a.hi d

theorem add_balance (a : Wide) (d : Word) :
    (add a d).1.val + (add a d).2.toNat * 2 ^ 128 = a.val + d.toNat :=
  addHalves_balance a.lo a.hi d

/-- R81, laws 1 and 2: the sum modulo 2^128, and `overflowed` where it reached 2^128. -/
theorem add_val_and_overflow (a : Wide) (d : Word) :
    (add a d).1.val = (a.val + d.toNat) % 2 ^ 128 ∧ ((add a d).2 = true ↔ 2 ^ 128 ≤ a.val + d.toNat) :=
  mod_and_wraps_of_balance (add_balance a d) (add a d).1.val_lt

/-- R81, law 3: the low sum fell below the old low half exactly when it carried, and then below `delta` too. -/
theorem add_carry_test (a : Wide) (d : Word) :
    (carries a.lo d = true ↔ (add a d).1.lo.toNat < a.lo.toNat) ∧
      (carries a.lo d = true → (add a d).1.lo.toNat < d.toNat) := by
  have hbal := add_low_balance a d
  have ha := a.lo.isLt
  have hd := d.isLt
  rw [carries_iff]
  rw [carries_toNat] at hbal
  split at hbal <;> omega

/-- R81, law 4. -/
theorem add_zero_word (a : Wide) : add a 0 = (a, false) := by
  have hbal : (add a 0).1.val + (add a 0).2.toNat * 2 ^ 128 = a.val := by simpa using add_balance a 0
  have ha := a.val_lt
  cases hov : (add a 0).2 with
  | false =>
    rw [hov, Bool.toNat_false, Nat.zero_mul, Nat.add_zero] at hbal
    exact Prod.ext (Wide.eq_of_val_eq hbal) hov
  | true => rw [hov, Bool.toNat_true] at hbal; omega

/-- R81, law 5: a high half that overflows was at its top and is 0, by a carry from below. -/
theorem add_of_overflow (a : Wide) (d : Word) (h : (add a d).2 = true) :
    (add a d).1.hi = 0 ∧ carries a.lo d = true := by
  obtain ⟨hc, htop⟩ := (overflows_iff a.lo a.hi d).mp h
  have hbal := add_high_balance a d
  rw [h, hc, Bool.toNat_true, htop] at hbal
  have hzero : (add a d).1.hi.toNat = 0 := by omega
  exact ⟨BitVec.eq_of_toNat_eq hzero, hc⟩

/-- Settles O1: laws 1 to 5 from the balances, and law 6 from the widths. -/
theorem addLaws : Obligations.AddLaws := by
  intro a d
  obtain ⟨hval, hov⟩ := add_val_and_overflow a d
  have ha := a.val_lt
  have hd := d.isLt
  exact ⟨hval, hov, add_carry_test a d, add_zero_word a, add_of_overflow a d, by omega, by omega, by omega⟩

/-- Settles O2: each half is its balance modulo 2^64, and overflow is a carry into a high half at its top. -/
theorem addHalvesFollowTheCarry : Obligations.AddHalvesFollowTheCarry := by
  intro alo ahi d
  obtain ⟨hlo, -⟩ := mod_and_wraps_of_balance (add_low_balance ⟨alo, ahi⟩ d) (add ⟨alo, ahi⟩ d).1.lo.isLt
  obtain ⟨hhi, -⟩ := mod_and_wraps_of_balance (add_high_balance ⟨alo, ahi⟩ d) (add ⟨alo, ahi⟩ d).1.hi.isLt
  rw [carries_toNat] at hhi
  exact ⟨hlo, hhi, (overflows_iff alo ahi d).trans (and_congr_left' (carries_iff alo d))⟩

/-! ### `WADD` -/

theorem admission_unitAccess {p : PState} (hr : p ≠ .running) (hf : p ≠ .fault) : admission .unitAccess p = .ok := by
  cases p with
  | running => exact absurd rfl hr
  | fault => exact absurd rfl hf
  | _ => rfl

/-- `WADD`, outside `Running` and `Fault`, puts the adder's answer on the operands into RES, OVF and CARRY. -/
theorem exec_wadd_of_admitted {s : State} (ha : admission .unitAccess s.pstate = .ok) :
    exec .wadd s = .next (((s.withRes (add s.opa s.opd).1).withUFlags
      (s.uflags.withAdd (add s.opa s.opd).2 (carries s.opalo s.opd))).respond false 0) := by
  simp only [exec, execWadd, Safety.whenAdmitted_of_ok _ ha]

/-- Settles O22: the values of the adder at the operands, by its laws. -/
theorem waddAddsOnce : Obligations.WaddAddsOnce := by
  intro s hr hf
  obtain ⟨hval, hov⟩ := add_val_and_overflow s.opa s.opd
  exact ⟨_, _, _, exec_wadd_of_admitted (admission_unitAccess hr hf), hval, hov, carries_iff s.opalo s.opd⟩

end Sys2Proof.Machine
end

section
/-! PROOFS. The range partitioner (R90, R91, R92): `laneStart` by the adder's law, the partition of a batch among its
lanes, and the command `LSTART` that runs the unit once. Candidate `x` of lane `i` stands at the offset `i * q + x` from
the base, so the partition of the batch is division with remainder by the quota `q`. -/

namespace Sys2Proof.Machine

/-! ### The range-offset unit -/

/-- R90: the offset enters the adder as the low 64 bits of the product, and the adder's overflow is dropped. -/
theorem laneStart_val (base : Wide) (i q : Word) :
    (laneStart base i q).val = (base.val + i.toNat * q.toNat % 2 ^ 64) % 2 ^ 128 := by
  obtain ⟨hval, -⟩ := add_val_and_overflow base (i * q)
  rw [laneStart, hval, BitVec.toNat_mul]

theorem laneStart_val_of_product_lt {base : Wide} {i q : Word} (h : i.toNat * q.toNat < 2 ^ 64) :
    (laneStart base i q).val = (base.val + i.toNat * q.toNat) % 2 ^ 128 := by
  rw [laneStart_val, Nat.mod_eq_of_lt h]

/-- Settles O4: the value at every product, and at a product that fits. -/
theorem laneStartAddsTheOffset : Obligations.LaneStartAddsTheOffset :=
  fun base i q => ⟨laneStart_val base i q, laneStart_val_of_product_lt⟩

/-! ### The partition of a batch -/

/-- The value lane `i` scans as its candidate `x`, in a batch of quota `q` from the base `b` (R91). -/
def scanned (b : Wide) (q i x : Nat) : Nat :=
  ((laneStart b (BitVec.ofNat 64 i) (BitVec.ofNat 64 q)).val + x) % 2 ^ 128

/-- In a batch of at most `2^64 - 1` candidates index, quota and their product are words, so the start is exact. -/
theorem laneStart_val_of_batch {b : Wide} {n q i : Nat} (hfits : n * q ≤ 2 ^ 64 - 1) (hq : 1 ≤ q) (hi : i < n) :
    (laneStart b (BitVec.ofNat 64 i) (BitVec.ofNat 64 q)).val = (b.val + i * q) % 2 ^ 128 := by
  have hproduct : i * q ≤ n * q := Nat.mul_le_mul_right q hi.le
  have hindex : n ≤ n * q := Nat.le_mul_of_pos_right n hq
  have hquota : q ≤ n * q := Nat.le_mul_of_pos_left q (by omega)
  have hi64 : (BitVec.ofNat 64 i).toNat = i := (BitVec.toNat_ofNat _ 64).trans (Nat.mod_eq_of_lt (by omega))
  have hq64 : (BitVec.ofNat 64 q).toNat = q := (BitVec.toNat_ofNat _ 64).trans (Nat.mod_eq_of_lt (by omega))
  rw [laneStart_val_of_product_lt (by rw [hi64, hq64]; omega), hi64, hq64]

theorem scanned_of_batch {b : Wide} {n q i : Nat} (hfits : n * q ≤ 2 ^ 64 - 1) (hq : 1 ≤ q) (hi : i < n) (x : Nat) :
    scanned b q i x = (b.val + (i * q + x)) % 2 ^ 128 := by
  rw [scanned, laneStart_val_of_batch hfits hq hi, Nat.mod_add_mod, Nat.add_assoc]

/-- A candidate's offset lies in the batch. -/
theorem offset_lt {n q i x : Nat} (hi : i < n) (hx : x < q) : i * q + x < n * q :=
  Nat.mul_comm q i ▸ Nat.mul_add_lt_mul_of_lt_of_lt hi hx

/-- A candidate's offset tells its lane: the quotient by the quota. -/
theorem offset_div_quota {q x : Nat} (i : Nat) (hx : x < q) : (i * q + x) / q = i := by
  rw [Nat.mul_comm, Nat.mul_add_div (by omega), Nat.div_eq_of_lt hx, Nat.add_zero]

/-- Offsets below the modulus that reach one value from one base are equal. -/
theorem offset_eq_of_value_eq {b k m : Nat} (hk : k < 2 ^ 128) (hm : m < 2 ^ 128)
    (h : (b + k) % 2 ^ 128 = (b + m) % 2 ^ 128) : k = m :=
  (Nat.ModEq.add_left_cancel' b h).eq_of_lt_of_lt hk hm

/-- R91: no value is scanned by two lanes, for its offset has one quotient. -/
theorem scanned_disjoint {b : Wide} {n q i j x y : Nat} (hfits : n * q ≤ 2 ^ 64 - 1) (hi : i < n) (hj : j < n)
    (hx : x < q) (hy : y < q) (hij : i ≠ j) : scanned b q i x ≠ scanned b q j y := by
  intro h
  have hq : 1 ≤ q := by omega
  have hix := offset_lt hi hx
  have hjy := offset_lt hj hy
  rw [scanned_of_batch hfits hq hi, scanned_of_batch hfits hq hj] at h
  have hoffset : i * q + x = j * q + y := offset_eq_of_value_eq (by omega) (by omega) h
  apply hij
  rw [← offset_div_quota i hx, hoffset, offset_div_quota j hy]

/-- R91: the values scanned are those of the batch. Offset `k` is candidate `k % q` of lane `k / q`. -/
theorem exists_scanned_iff {b : Wide} {n q : Nat} (hfits : n * q ≤ 2 ^ 64 - 1) (hq : 1 ≤ q) (v : Nat) :
    (∃ i x, i < n ∧ x < q ∧ v = scanned b q i x) ↔ ∃ k, k < n * q ∧ v = (b.val + k) % 2 ^ 128 := by
  constructor
  · rintro ⟨i, x, hi, hx, rfl⟩
    exact ⟨i * q + x, offset_lt hi hx, scanned_of_batch hfits hq hi x⟩
  · rintro ⟨k, hk, rfl⟩
    have hlane : k / q < n := Nat.div_lt_of_lt_mul (Nat.mul_comm n q ▸ hk)
    exact ⟨k / q, k % q, hlane, Nat.mod_lt k hq, by rw [scanned_of_batch hfits hq hlane, Nat.div_add_mod']⟩

/-- R91: the next lane starts one past a lane's last candidate. -/
theorem laneStart_succ_val {b : Wide} {n q i : Nat} (hfits : n * q ≤ 2 ^ 64 - 1) (hq : 1 ≤ q) (hi : i + 1 < n) :
    (laneStart b (BitVec.ofNat 64 (i + 1)) (BitVec.ofNat 64 q)).val = (scanned b q i (q - 1) + 1) % 2 ^ 128 := by
  have hnext : (i + 1) * q = i * q + (q - 1) + 1 := by rw [Nat.succ_mul]; omega
  rw [laneStart_val_of_batch hfits hq hi, scanned_of_batch hfits hq (Nat.lt_of_succ_lt hi), Nat.mod_add_mod, hnext,
    ← Nat.add_assoc]

/-- Settles O5: the starts, disjointness, coverage, the number of values and contiguity. -/
theorem laneRangesPartitionTheBatch : Obligations.LaneRangesPartitionTheBatch := by
  intro b n q _ hq hfits
  refine ⟨fun i hi => laneStart_val_of_batch hfits hq hi,
    fun i j x y hi hj hx hy hij => scanned_disjoint hfits hi hj hx hy hij,
    fun v => exists_scanned_iff hfits hq v,
    fun k m hk hm h => ?distinct,
    fun i hi => laneStart_succ_val hfits hq hi⟩
  case distinct => exact offset_eq_of_value_eq (by omega) (by omega) h

/-! ### `LSTART` -/

theorem productTruncated_iff (i q : Word) : productTruncated i q = true ↔ 2 ^ 64 ≤ i.toNat * q.toNat :=
  decide_eq_true_iff

/-- `LSTART`, outside `Running` and `Fault`, puts the unit's answer on the operands into RES and PTRUNC. -/
theorem exec_lstart_of_admitted {s : State} (ha : admission .unitAccess s.pstate = .ok) :
    exec .lstart s = .next (((s.withRes (laneStart s.opa s.opx s.opq)).withUFlags
      (s.uflags.withPtrunc (productTruncated s.opx s.opq))).respond false 0) := by
  simp only [exec, execLstart, Safety.whenAdmitted_of_ok _ ha]

/-- Settles O23: the value of the unit at the operands, and whether their product needed more than 64 bits. -/
theorem lstartOffsetsOnce : Obligations.LstartOffsetsOnce := by
  intro s hr hf
  exact ⟨_, _, exec_lstart_of_admitted (admission_unitAccess hr hf), laneStart_val s.opa s.opx s.opq,
    productTruncated_iff s.opx s.opq⟩

end Sys2Proof.Machine
end

section
/-! PROOFS. The comparator (R100, R101, R103): the loop as a search for the first differing byte, its verdict as equality of
the two pairs, and the command `BMATCH` that runs the unit once. -/

namespace Sys2Proof.Machine

/-! ### The search for a difference -/

/-- The bytes with index `k` differ. -/
def differsAt (c t : Wide) (k : Nat) : Bool := decide (wideByte c k ≠ wideByte t k)

theorem not_differsAt {c t : Wide} {k : Nat} : (!differsAt c t k) = true ↔ wideByte c k = wideByte t k := by
  simp [differsAt]

/-- R100's loop searches its indices for the first at which the bytes differ. -/
theorem matchFrom_eq_find (c t : Wide) (ks : List Nat) :
    matchFrom c t ks = (ks.find? (differsAt c t)).elim (true, 16) fun k => (false, k) := by
  induction ks with
  | nil => rfl
  | cons k rest ih =>
    by_cases h : wideByte c k = wideByte t k
    · simp [matchFrom, differsAt, h, ih]
    · simp [matchFrom, differsAt, h]

/-- Settles O6: the search over the sixteen indices fails, or finds an index with none before it. -/
theorem byteMatchFindsTheFirstDifference : Obligations.ByteMatchFindsTheFirstDifference := by
  intro c t
  have hloop := matchFrom_eq_find c t (List.range 16)
  cases hfind : (List.range 16).find? (differsAt c t) with
  | none =>
    rw [hfind] at hloop
    exact .inl ⟨hloop, fun k hk => not_differsAt.mp (List.find?_range_eq_none.mp hfind k hk)⟩
  | some k =>
    rw [hfind] at hloop
    obtain ⟨hdiffers, hmem, hbefore⟩ := List.find?_range_eq_some.mp hfind
    exact .inr ⟨k, List.mem_range.mp hmem, hloop, of_decide_eq_true hdiffers,
      fun j hj => not_differsAt.mp (hbefore j hj)⟩

/-! ### The verdict -/

/-- A word is determined by its eight bytes: bit `i` is bit `i % 8` of byte `i / 8`. -/
theorem eq_of_byteOf_eq {a b : Word} (h : ∀ k, k < 8 → byteOf a k = byteOf b k) : a = b := by
  apply BitVec.eq_of_getLsbD_eq
  intro i hi
  have hbit (w : Word) : (byteOf w (i / 8)).getLsbD (i % 8) = w.getLsbD i := by
    rw [byteOf, BitVec.getLsbD_extractLsb', Nat.div_add_mod]
    simp [Nat.mod_lt]
  rw [← hbit a, ← hbit b, h (i / 8) (by omega)]

/-- A pair is determined by its sixteen bytes: the first eight are those of the low half. -/
theorem wide_eq_iff_bytes {a b : Wide} : a = b ↔ ∀ k, k < 16 → wideByte a k = wideByte b k := by
  constructor
  · rintro rfl k _
    rfl
  · intro h
    have hlo : a.lo = b.lo := eq_of_byteOf_eq fun k hk => by
      simpa [wideByte, hk] using h k (by omega)
    have hhi : a.hi = b.hi := eq_of_byteOf_eq fun k hk => by
      simpa [wideByte] using h (k + 8) (by omega)
    cases a
    cases b
    simp_all

theorem byteMatch_iff_bytes (c t : Wide) :
    (byteMatch c t).1 = true ↔ ∀ k, k < 16 → wideByte c k = wideByte t k := by
  simp only [byteMatch, matchFrom_fst, List.mem_range]

/-- R101: the verdict is equality. -/
theorem byteMatch_iff_eq (c t : Wide) : (byteMatch c t).1 = true ↔ c = t :=
  (byteMatch_iff_bytes c t).trans wide_eq_iff_bytes.symm

theorem byteMatch_iff_val (c t : Wide) : (byteMatch c t).1 = true ↔ c.val = t.val :=
  (byteMatch_iff_eq c t).trans Wide.val_inj.symm

/-- Settles O7: equality of pairs, read in the halves, in the numbers and in the bytes. -/
theorem byteMatchIsEquality : Obligations.ByteMatchIsEquality := fun c t =>
  ⟨(byteMatch_iff_eq c t).trans ⟨fun h => h ▸ ⟨rfl, rfl⟩, fun ⟨hlo, hhi⟩ => by cases c; cases t; simp_all⟩,
    byteMatch_iff_val c t, byteMatch_iff_bytes c t⟩

/-! ### `BMATCH` -/

/-- `BMATCH`, outside `Running` and `Fault`, puts the comparator's answer on OPA and TGT into MATCH and MIDX. -/
theorem exec_bmatch_of_admitted {s : State} (ha : admission .unitAccess s.pstate = .ok) :
    exec .bmatch s = .next ((s.withUFlags
      (s.uflags.withMatch (byteMatch s.opa s.tgt).1 (byteMatch s.opa s.tgt).2)).respond false 0) := by
  simp only [exec, execBmatch, Safety.whenAdmitted_of_ok _ ha]

/-- Settles O24: the two cases of O6 at the operands, and the verdict as equality by O7. -/
theorem bmatchComparesOnce : Obligations.BmatchComparesOnce := by
  intro s hr hf
  have hexec := exec_bmatch_of_admitted (admission_unitAccess hr hf)
  have heq := byteMatch_iff_eq s.opa s.tgt
  refine ⟨_, _, hexec, heq, ?_⟩
  obtain ⟨hm, hbytes⟩ | ⟨k, hk, hm, hdiffers, hbefore⟩ := byteMatchFindsTheFirstDifference s.opa s.tgt
  · rw [hm]
    exact ⟨by simp, le_rfl, fun j hj => hbytes j hj, fun h => absurd h (lt_irrefl 16)⟩
  · rw [hm]
    exact ⟨by simp; omega, hk.le, hbefore, fun _ => hdiffers⟩

end Sys2Proof.Machine
end

section
/-! PROOFS. The lane micro-operations (R104 to R115): each from its phase, then all of them at once as what the turn's lane
becomes and what it writes to BatchState. -/

namespace Sys2Proof.Safety

open Sys2Proof Sys2Proof.Machine

/-! ### Each micro-operation from its phase -/

/-- In `Running`, a lane that stands in the phase of a micro-operation takes its effect (R68, R104). -/
theorem laneStep_of_phase {s : State} {l : Lane} {p : Phase} (effect : Lane → State) (hr : s.pstate = .running)
    (hl : s.ctx[s.env.lane]? = some l) (hp : l.phase = p) : s.laneStep p effect = .next (effect l) :=
  s.laneStep_eq_next.mpr ⟨l, hr, hl, hp, rfl⟩

theorem observesClaimed_iff (s : State) : s.observesClaimed = true ↔ s.flag = true ∧ s.env.stale = false := by
  simp [State.observesClaimed]

/-- Settles O31: a check sees a claim exactly where the flag is claimed and its draw is not stale. -/
theorem flagChecksAreBestEffort : Obligations.FlagChecksAreBestEffort := by
  intro s l hr hl
  simp only [← observesClaimed_iff]
  exact ⟨laneStep_of_phase _ hr hl, laneStep_of_phase _ hr hl⟩

theorem exec_lStart {s : State} {l : Lane} (hr : s.pstate = .running) (hl : s.ctx[s.env.lane]? = some l)
    (hp : l.phase = .start) :
    exec .lStart s =
      .next (s.setLane { l with cand := laneStart s.base l.index s.quota, rem := s.quota, phase := .loop }) :=
  laneStep_of_phase _ hr hl hp

/-- Settles O32: the value of the range-offset unit at the lane's index. -/
theorem startGivesTheFirstCandidate : Obligations.StartGivesTheFirstCandidate := fun _ _ hr hl hp =>
  ⟨_, exec_lStart hr hl hp, laneStart_val _ _ _⟩

theorem rem_eq_zero_iff (l : Lane) : l.rem = 0 ↔ l.rem.toNat = 0 :=
  BitVec.toNat_inj.symm

/-- Settles O33: the quota is used up where the word is zero as a number. -/
theorem loopEndsWithTheQuota : Obligations.LoopEndsWithTheQuota := by
  refine ⟨rfl, fun s l hr hl hp => ?_⟩
  simp only [← rem_eq_zero_iff]
  exact laneStep_of_phase _ hr hl hp

/-- Settles O34: the comparator's verdict is equality of the numbers. -/
theorem cmpMatchesTheTarget : Obligations.CmpMatchesTheTarget := by
  intro s l hr hl hp
  simp only [← byteMatch_iff_val]
  exact laneStep_of_phase _ hr hl hp

/-- Settles O35: on a claimed flag the claim changes nothing, and on an unset flag it is the win. -/
theorem casClaimsOnce : Obligations.CasClaimsOnce := by
  intro s l hr hl hp
  refine (laneStep_of_phase _ hr hl hp).trans (congrArg Host.Outcome.next ?_)
  cases hf : s.flag with
  | true =>
    have hsame : s.claim = s := by rw [State.claim, ← hf]
    exact congrArg (State.setLane · { l with won := false, phase := .ret }) hsame.symm
  | false => rfl

/-- Settles O36: the two writes as R112 and R113 give them. -/
theorem winnerWritesBothHalves : Obligations.WinnerWritesBothHalves := fun _ _ hr hl =>
  ⟨laneStep_of_phase _ hr hl, laneStep_of_phase _ hr hl⟩

theorem exec_lInc {s : State} {l : Lane} (hr : s.pstate = .running) (hl : s.ctx[s.env.lane]? = some l)
    (hp : l.phase = .inc) :
    exec .lInc s = .next (s.setLane { l with cand := (add l.cand 1).1, rem := l.rem - 1, phase := .loop }) :=
  laneStep_of_phase _ hr hl hp

theorem add_one_val (a : Wide) : (add a 1).1.val = (a.val + 1) % 2 ^ 128 :=
  (add_val_and_overflow a 1).1

theorem sub_one_toNat {r : Word} (h : 1 ≤ r.toNat) : (r - 1).toNat = r.toNat - 1 :=
  BitVec.toNat_sub_of_le (BitVec.le_def.mpr h)

/-- Settles O37: the adder's sum modulo 2^128, and a word of at least one less one. -/
theorem incStepsTheCandidate : Obligations.IncStepsTheCandidate := fun _ _ hr hl hp hrem =>
  ⟨_, _, exec_lInc hr hl hp, add_one_val _, sub_one_toNat hrem⟩

/-! ### The phase of a micro-operation -/

theorem exists_phase_of_micro {i : Instr} (hi : isCommand i = false) : ∃ p, phaseInstr p = .ok i := by
  cases i with
  | nop | wrr _ | rdr _ | wadd | lstart | bmatch | breset | launch | sync | next => cases hi
  | lChk0 => exact ⟨.chk0, rfl⟩
  | lStart => exact ⟨.start, rfl⟩
  | lLoop => exact ⟨.loop, rfl⟩
  | lChk => exact ⟨.chk, rfl⟩
  | lCmp => exact ⟨.cmp, rfl⟩
  | lCas => exact ⟨.cas, rfl⟩
  | lWrlo => exact ⟨.wrlo, rfl⟩
  | lWrhi => exact ⟨.wrhi, rfl⟩
  | lInc => exact ⟨.inc, rfl⟩

/-- Settles O38: a micro-operation is a lane's step from the phase of its name, which is enabled nowhere else. -/
theorem microOperationsNeedTheirPhase : Obligations.MicroOperationsNeedTheirPhase := by
  intro i s t hi h
  obtain ⟨p, hp⟩ := exists_phase_of_micro hi
  obtain ⟨effect, he⟩ := exec_phaseInstr s hp
  obtain ⟨l, hr, hl, rfl, _⟩ := s.laneStep_eq_next.mp (he.symm.trans h)
  exact ⟨hr, l, hl, hp⟩

/-! ### All micro-operations at once -/

/-- What the turn's lane becomes by the micro-operation of its phase (R106 to R114). -/
def nextLane (s : State) (l : Lane) : Lane :=
  match l.phase with
  | .chk0 => { l with phase := if s.flag = true ∧ s.env.stale = false then .ret else .start }
  | .start => { l with cand := laneStart s.base l.index s.quota, rem := s.quota, phase := .loop }
  | .loop => { l with phase := if l.rem.toNat = 0 then .ret else .chk }
  | .chk => { l with phase := if s.flag = true ∧ s.env.stale = false then .ret else .cmp }
  | .cmp => { l with phase := if l.cand.val = s.tgt.val then .cas else .inc }
  | .cas => { l with won := !s.flag, phase := if s.flag = true then .ret else .wrlo }
  | .wrlo => { l with phase := .wrhi }
  | .wrhi => { l with phase := .ret }
  | .inc => { l with cand := (add l.cand 1).1, rem := l.rem - 1, phase := .loop }
  | .ret => l

/-- What the turn's lane writes to BatchState by the micro-operation of its phase (R111 to R113). -/
def withWrite (s : State) (l : Lane) : State :=
  match l.phase with
  | .cas => s.claim
  | .wrlo => s.withFndlo l.cand.lo
  | .wrhi => s.withFndhi l.cand.hi
  | _ => s

/-- The state after the turn of a lane. -/
def afterTurn (s : State) (l : Lane) : State := (withWrite s l).setLane (nextLane s l)

/-- The micro-operation of a lane's phase, in `Running`, in one equation (R68, R104 to R115). -/
theorem exec_of_lane {s : State} {l : Lane} {i : Instr} (hr : s.pstate = .running) (hl : s.ctx[s.env.lane]? = some l)
    (hi : phaseInstr l.phase = .ok i) : exec i s = .next (afterTurn s l) := by
  cases hp : l.phase <;> rw [hp] at hi <;> cases hi <;> simp only [afterTurn, withWrite, nextLane, hp]
  case chk0 => exact (flagChecksAreBestEffort s l hr hl).1 hp
  case start => exact exec_lStart hr hl hp
  case loop => exact loopEndsWithTheQuota.2 s l hr hl hp
  case chk => exact (flagChecksAreBestEffort s l hr hl).2 hp
  case cmp => exact cmpMatchesTheTarget s l hr hl hp
  case cas => exact casClaimsOnce s l hr hl hp
  case wrlo => exact (winnerWritesBothHalves s l hr hl).1 hp
  case wrhi => exact (winnerWritesBothHalves s l hr hl).2 hp
  case inc => exact exec_lInc hr hl hp

/-- A micro-operation that has a next state is the turn of a lane in its phase, and it leads to `afterTurn`. -/
theorem afterTurn_of_exec {i : Instr} {s t : State} (hi : isCommand i = false) (h : exec i s = .next t) :
    ∃ l, s.pstate = .running ∧ s.ctx[s.env.lane]? = some l ∧ phaseInstr l.phase = .ok i ∧ t = afterTurn s l := by
  obtain ⟨hr, l, hl, hp⟩ := microOperationsNeedTheirPhase i s t hi h
  rw [exec_of_lane hr hl hp] at h
  exact ⟨l, hr, hl, hp, (Host.Outcome.next.inj h).symm⟩

end Sys2Proof.Safety
end

section
/-! PROOFS. A running batch along the turns of its lanes (R55, R91, R104 to R118): every micro-operation keeps what holds while
a batch runs, and brings its lane nearer to RET. -/

namespace Sys2Proof.Safety

open Sys2Proof Sys2Proof.Machine

/-! ### The candidates of a batch (R90, R91) -/

theorem candidate_succ (s : State) (i k : Nat) : candidate s i (k + 1) = (candidate s i k + 1) % 2 ^ 128 := by
  simp only [candidate, Nat.mod_add_mod, Nat.add_assoc]

/-- The batch is the union of the lanes' ranges: offset `k` is candidate `k % Q` of lane `k / Q`. -/
theorem inBatch_iff_candidate (s : State) :
    InBatch s ↔ ∃ i k, i < s.lanes.toNat ∧ k < s.quota.toNat ∧ candidate s i k = s.tgt.val := by
  simp only [InBatch, candidate]
  constructor
  · rintro ⟨k, hk, h⟩
    have hq : 0 < s.quota.toNat := Nat.pos_of_mul_pos_left (Nat.zero_lt_of_lt hk)
    refine ⟨k / s.quota.toNat, k % s.quota.toNat, Nat.div_lt_of_lt_mul (Nat.mul_comm _ _ ▸ hk), Nat.mod_lt k hq, ?_⟩
    rw [Nat.add_assoc, Nat.div_add_mod', h]
  · rintro ⟨i, k, hi, hk, h⟩
    exact ⟨i * s.quota.toNat + k, offset_lt hi hk, by rw [← Nat.add_assoc, h]⟩

/-- A legal configuration keeps the offset of every lane within 64 bits (R134). -/
theorem lane_offset_lt {s : State} {i : Nat} (h : s.launchLegal = true) (hi : i < s.lanes.toNat) :
    i * s.quota.toNat < 2 ^ 64 :=
  (Nat.mul_le_mul_right _ hi.le).trans_lt (s.launchLegal_iff.mp h).2.2.2

/-! ### A lane in each kind of phase -/

/-- Of a lane that has returned only its index and its verdicts count. -/
theorem laneOk_of_ret {s : State} {i : Nat} {m : Lane} (hp : m.phase = .ret) (hi : m.index.toNat = i)
    (hm : s.flag = false → ∀ k, k < s.quota.toNat → candidate s i k ≠ s.tgt.val) : LaneOk s i m := by
  constructor <;> simp [hp, hi, holdsCandidate, isWriter, rejected]
  simpa using hm

/-- A lane that has not yet its first candidate has compared nothing. -/
theorem laneOk_of_fresh {s : State} {i : Nat} {m : Lane} (hp : m.phase = .chk0 ∨ m.phase = .start)
    (hi : m.index.toNat = i) : LaneOk s i m := by
  obtain hp | hp := hp <;> constructor <;> simp [hp, hi, holdsCandidate, isWriter, rejected]

/-- A lane that has just taken a candidate has compared those before it (R107, R114). -/
theorem laneOk_of_loop {s : State} {i : Nat} {m : Lane} (hp : m.phase = .loop) (hi : m.index.toNat = i)
    (hq : m.rem.toNat ≤ s.quota.toNat) (hc : m.cand.val = candidate s i (s.quota.toNat - m.rem.toNat))
    (hm : s.flag = false → ∀ k, k < s.quota.toNat - m.rem.toNat → candidate s i k ≠ s.tgt.val) : LaneOk s i m := by
  constructor <;> simp [hp, hi, hq, hc, isWriter, rejected]
  simpa using hm

/-- A lane that keeps its candidate goes to a phase whose own conditions it meets. -/
theorem LaneOk.rephase {s : State} {i : Nat} {l : Lane} {p : Phase} (w : Bool) (h : LaneOk s i l)
    (hl : holdsCandidate l.phase = true) (hrem : 1 ≤ l.rem.toNat)
    (hfound : p = .cas ∨ isWriter p = true → l.cand = s.tgt) (hclaimed : isWriter p = true → s.flag = true)
    (hlow : p = .wrhi → s.fndlo = s.tgtlo)
    (hmissed : s.flag = false →
      ∀ k, k < rejected s.quota.toNat { l with phase := p } → candidate s i k ≠ s.tgt.val) :
    LaneOk s i { l with won := w, phase := p } :=
  { index := h.index, quota := fun _ => h.quota hl, cand := fun _ => h.cand hl, rem := fun _ _ => hrem
    found := hfound, claimed := hclaimed, low := hlow, missed := hmissed }

/-- A lane in INC has compared its candidate too, so the next one is taken with one more behind it (R114). -/
theorem LaneOk.increment {s : State} {i : Nat} {l : Lane} (h : LaneOk s i l) (hp : l.phase = .inc) :
    LaneOk s i { l with cand := (add l.cand 1).1, rem := l.rem - 1, phase := .loop } := by
  have hholds : holdsCandidate l.phase = true := by rw [hp]; rfl
  have hone : 1 ≤ l.rem.toNat := h.rem hholds (by simp [hp])
  have hquota := h.quota hholds
  have hmissed := h.missed
  simp only [rejected, hp] at hmissed
  have hless : s.quota.toNat - (l.rem - 1).toNat = s.quota.toNat - l.rem.toNat + 1 := by
    rw [sub_one_toNat hone]
    omega
  refine laneOk_of_loop rfl h.index ?quota ?cand ?missed <;> dsimp only
  case quota =>
    rw [sub_one_toNat hone]
    omega
  case cand => rw [hless, candidate_succ, add_one_val, h.cand hholds]
  case missed =>
    rw [hless]
    exact hmissed

/-! ### What a lane's turn leaves of the other lanes -/

/-- Only BatchState is in reach of a lane's write. -/
theorem withWrite_touches (s : State) (l : Lane) :
    ∃ f lo hi, withWrite s l = { s with flag := f, fndlo := lo, fndhi := hi } := by
  unfold withWrite
  split <;> exact ⟨_, _, _, rfl⟩

/-- What holds of a lane is kept by a claim, and by the low write of the target's low half (R111, R112). -/
theorem LaneOk.withWrite {s : State} {i j : Nat} {l m : Lane} (hm : LaneOk s j m) (hl : LaneOk s i l) :
    LaneOk (withWrite s l) j m := by
  cases hp : l.phase <;> simp only [Safety.withWrite, hp]
  case cas => exact { hm with claimed := fun _ => rfl, missed := fun h => by cases h }
  case wrlo =>
    have hlow : l.cand.lo = s.tgtlo := congrArg Wide.lo (hl.found (.inr (by rw [hp]; rfl)))
    exact { hm with low := fun _ => hlow }
  case wrhi => exact hm.congr rfl rfl rfl rfl rfl
  all_goals exact hm

/-- R106 to R114: the turn's lane meets the conditions of the phase it goes to. -/
theorem LaneOk.nextLane {s : State} {i : Nat} {l : Lane} (h : LaneOk s i l) (hi : i * s.quota.toNat < 2 ^ 64) :
    LaneOk (Safety.withWrite s l) i (nextLane s l) := by
  have hw : LaneOk (Safety.withWrite s l) i l := h.withWrite h
  have hrem := h.rem
  have hfound := h.found
  have hmissed := h.missed
  have hcand := h.cand
  cases hp : l.phase <;> simp only [hp, holdsCandidate, isWriter, rejected] at hrem hfound hmissed hcand <;>
    simp only [Safety.withWrite, Safety.nextLane, hp] at hw ⊢
  case chk0 =>
    split
    · next hf => exact laneOk_of_ret rfl h.index (by simp [hf.1])
    · exact laneOk_of_fresh (.inr rfl) h.index
  case start =>
    have hstart : (laneStart s.base l.index s.quota).val = candidate s i 0 := by
      rw [laneStart_val_of_product_lt (h.index ▸ hi), h.index, candidate, Nat.add_zero]
    exact laneOk_of_loop rfl h.index le_rfl (by rw [Nat.sub_self, hstart]) (by simp)
  case loop =>
    split
    · next hz => exact laneOk_of_ret rfl h.index (by simpa [hz] using hmissed)
    · exact h.rephase l.won (by rw [hp]; rfl) (by omega) (by simp [isWriter]) (by simp [isWriter]) (by simp) hmissed
  case chk =>
    split
    · next hf => exact laneOk_of_ret rfl h.index (by simp [hf.1])
    · exact h.rephase l.won (by rw [hp]; rfl) (hrem rfl (by simp)) (by simp [isWriter]) (by simp [isWriter]) (by simp)
        hmissed
  case cmp =>
    split
    · next heq =>
      exact h.rephase l.won (by rw [hp]; rfl) (hrem rfl (by simp)) (fun _ => Wide.eq_of_val_eq heq)
        (by simp [isWriter]) (by simp) hmissed
    · next hne =>
      refine h.rephase l.won (by rw [hp]; rfl) (hrem rfl (by simp)) (by simp [isWriter]) (by simp [isWriter]) (by simp)
        fun hf k hk => ?_
      obtain hk | rfl := Nat.lt_succ_iff_lt_or_eq.mp hk
      · exact hmissed hf k hk
      · exact hcand rfl ▸ hne
  case cas =>
    split
    · next hf => exact laneOk_of_ret rfl h.index nofun
    · exact hw.rephase _ (by rw [hp]; rfl) (hrem rfl (by simp)) (fun _ => hfound (.inl trivial)) (fun _ => rfl) (by simp)
        nofun
  case wrlo =>
    have heq : l.cand = s.tgt := hfound (.inr rfl)
    have hf : s.flag = true := h.claimed (by rw [hp]; rfl)
    exact hw.rephase l.won (by rw [hp]; rfl) (hrem rfl (by simp)) (fun _ => heq) (fun _ => hf)
      (fun _ => congrArg Wide.lo heq) (fun hu => by simp [hf] at hu)
  case wrhi =>
    have hf : s.flag = true := h.claimed (by rw [hp]; rfl)
    exact laneOk_of_ret rfl h.index (by simp [hf])
  case inc => exact h.increment hp
  case ret => exact h

/-! ### The batch along a lane's turn -/

/-- A lane of the state after a turn is the turn's lane as it became, or a lane as it was. -/
theorem afterTurn_getElem? {s : State} {l m : Lane} {j : Nat} (h : (afterTurn s l).ctx[j]? = some m) :
    (j = s.env.lane ∧ m = nextLane s l) ∨ (j ≠ s.env.lane ∧ s.ctx[j]? = some m) := by
  obtain ⟨f, lo, hi, hw⟩ := withWrite_touches s l
  rw [afterTurn, hw, State.setLane_getElem?] at h
  split at h
  · next hj =>
    split at h
    · exact .inl ⟨hj.symm, (Option.some.inj h).symm⟩
    · cases h
  · next hj => exact .inr ⟨Ne.symm hj, h⟩

/-- Every lane of the batch meets its conditions after the turn. -/
theorem BatchOk.lane_afterTurn {s : State} {l : Lane} (h : BatchOk s) (hl : s.ctx[s.env.lane]? = some l) {j : Nat}
    {m : Lane} (hm : (afterTurn s l).ctx[j]? = some m) : LaneOk (afterTurn s l) j m := by
  suffices LaneOk (withWrite s l) j m from this.congr rfl rfl rfl rfl rfl
  have hok := h.lane _ _ hl
  obtain ⟨rfl, rfl⟩ | ⟨_, hm⟩ := afterTurn_getElem? hm
  · have hi : s.env.lane < s.lanes.toNat := h.length ▸ (List.getElem?_eq_some_iff.mp hl).1
    exact hok.nextLane (lane_offset_lt h.legal hi)
  · exact (h.lane _ _ hm).withWrite hok

/-- A turn that leaves no writer in its lane is the second write, or it is a turn of no writer and leaves BatchState. -/
theorem withWrite_of_not_writer {s : State} {l : Lane} (hp : l.phase ≠ .wrhi)
    (hm : isWriter (nextLane s l).phase = false) :
    isWriter l.phase = false ∧ (withWrite s l).flag = s.flag ∧ (withWrite s l).fnd = s.fnd := by
  cases hl : l.phase <;> simp only [nextLane, withWrite, hl] at hm ⊢
  case cas =>
    split at hm
    · next hf => exact ⟨rfl, hf.symm, rfl⟩
    · cases hm
  case wrlo => cases hm
  case wrhi => exact absurd hl hp
  all_goals exact ⟨rfl, trivial, trivial⟩

/-- A flag that is claimed after a turn was claimed before, or the turn's lane was in CAS (R111). -/
theorem flag_of_withWrite {s : State} {l : Lane} (hf : (withWrite s l).flag = true) :
    s.flag = true ∨ l.phase = .cas := by
  cases hp : l.phase <;> simp only [withWrite, hp] at hf
  case cas => exact .inr rfl
  all_goals exact .inl hf

/-- A lane in CAS holds a candidate of the batch, and it is the target (R91, R110). -/
theorem BatchOk.inBatch_of_cas {s : State} {i : Nat} {l : Lane} (h : BatchOk s) (hl : s.ctx[i]? = some l)
    (hp : l.phase = .cas) : InBatch s := by
  have hok := h.lane i l hl
  have hc : holdsCandidate l.phase = true := by rw [hp]; rfl
  have hrem := hok.rem hc (by simp [hp])
  have hquota := hok.quota hc
  have hi : i < s.lanes.toNat := h.length ▸ (List.getElem?_eq_some_iff.mp hl).1
  exact (inBatch_iff_candidate s).mpr
    ⟨i, s.quota.toNat - l.rem.toNat, hi, by omega, by rw [← hok.cand hc, hok.found (.inl hp)]⟩

/-- Where no lane has still to write after the turn, the target is found wherever the flag is claimed (R112, R113). -/
theorem BatchOk.written_afterTurn {s : State} {l : Lane} (h : BatchOk s) (hl : s.ctx[s.env.lane]? = some l)
    (hf : (afterTurn s l).flag = true)
    (hnone : ∀ (j : Nat) (m : Lane), (afterTurn s l).ctx[j]? = some m → isWriter m.phase = false) :
    (afterTurn s l).fnd = s.tgt := by
  have hok := h.lane _ _ hl
  obtain ⟨f, lo, hi, hw⟩ := withWrite_touches s l
  have hset (j : Nat) := (withWrite s l).setLane_getElem? (nextLane s l) j
  have hlt : s.env.lane < s.ctx.length := (List.getElem?_eq_some_iff.mp hl).1
  by_cases hp : l.phase = .wrhi
  · have hfound : l.cand = s.tgt := hok.found (.inr (by rw [hp]; rfl))
    simp only [afterTurn, withWrite, hp]
    exact congrArg₂ Wide.mk (hok.low hp) (congrArg Wide.hi hfound)
  · have hm : isWriter (nextLane s l).phase = false := by
      refine hnone s.env.lane _ ((hset _).trans ?_)
      simp [hw, hlt]
    obtain ⟨hlw, hflag, hfnd⟩ := withWrite_of_not_writer hp hm
    refine hfnd.trans (h.written (hflag.symm.trans hf) fun j m hj => ?_)
    by_cases hk : s.env.lane = j
    · subst hk
      cases hl.symm.trans hj
      exact hlw
    · refine hnone j m ((hset j).trans ?_)
      simpa [hw, hk] using hj

/-- A micro-operation keeps what holds while a batch runs. -/
theorem BatchOk.exec {s t : State} {i : Instr} (h : BatchOk s) (hi : isCommand i = false)
    (hx : exec i s = .next t) : BatchOk t := by
  have hclaim : ClaimOk t :=
    claimsExcludeEachOther i s t hi ⟨fun j m hm hw => (h.lane j m hm).claimed hw, h.writer⟩ hx
  obtain ⟨l, _, hl, _, rfl⟩ := afterTurn_of_exec hi hx
  obtain ⟨f, lo, hi, hw⟩ := withWrite_touches s l
  have hparams : (afterTurn s l).base = s.base ∧ (afterTurn s l).tgt = s.tgt ∧ (afterTurn s l).lanes = s.lanes ∧
      (afterTurn s l).quota = s.quota ∧ (afterTurn s l).launchLegal = s.launchLegal ∧
      (afterTurn s l).ctx.length = s.ctx.length := by
    rw [afterTurn, hw]
    exact ⟨rfl, rfl, rfl, rfl, rfl, List.length_set⟩
  obtain ⟨hb, ht, hn, hq, hlegal, hlen⟩ := hparams
  exact
    { legal := hlegal.trans h.legal
      length := by rw [hlen, hn, h.length]
      lane := fun j m hm => h.lane_afterTurn hl hm
      writer := hclaim.2
      written := fun hf hnone => (h.written_afterTurn hl hf hnone).trans ht.symm
      inBatch := fun hf => (InBatch.congr hb ht hn hq).mpr <|
        (flag_of_withWrite hf).elim h.inBatch (h.inBatch_of_cas hl) }

/-! ### The bound on a lane's steps (R118) -/

/-- A lane that can step comes nearer to RET. -/
theorem LaneOk.stepsLeft_nextLane_lt {s : State} {i : Nat} {l : Lane} (h : LaneOk s i l) (hp : l.phase ≠ .ret) :
    stepsLeft s.quota.toNat (Safety.nextLane s l) < stepsLeft s.quota.toNat l := by
  have hrem := h.rem
  cases hl : l.phase <;> simp only [hl, holdsCandidate] at hrem <;> simp only [Safety.nextLane, hl]
  case ret => exact absurd hl hp
  case inc =>
    have hone : 1 ≤ l.rem.toNat := hrem rfl (by simp)
    simp only [stepsLeft, hl, sub_one_toNat hone]
    omega
  case cmp =>
    have hone : 1 ≤ l.rem.toNat := hrem rfl (by simp)
    split_ifs <;> simp only [stepsLeft, hl] <;> omega
  case chk0 | loop | chk | cas => split_ifs <;> simp only [stepsLeft, hl] <;> omega
  case start | wrlo | wrhi => simp only [stepsLeft, hl]; omega

end Sys2Proof.Safety
end

section
/-! PROOFS. The block's invariant along every step and every run (R6, R21, R117): what an instruction does not touch keeps it,
the transitions of R21's table lead from one protocol state's condition to the next one's, and the micro-operations keep
what holds while a batch runs. -/

namespace Sys2Proof.Safety

open Sys2Proof Sys2Proof.Machine

/-! ### What the invariant does not read -/

/-- The state with the operands and results of the units, the port, the environment's side and the count of draws put to
fixed values: what is left is what the invariant reads besides the port. -/
def essence (s : State) : State :=
  { s with
    opalo := 0, opahi := 0, opd := 0, opx := 0, opq := 0, reslo := 0, reshi := 0, uflags := UFlags.zero
    syncPending := false, rst := false, cmd := { word := 0, wdata := 0 }, rsp := Response.none
    env := Env.quiet, draws := 0 }

/-- The invariant of a state is carried to any other with the same essence, but for what it says of the port. -/
theorem BlockInv.of_essence {s t : State} (h : BlockInv s) (he : essence t = essence s)
    (hheld : t.syncPending = true → t.pstate = .running)
    (hrst : t.rst = true → t.pstate = .config ∧ t.syncPending = false ∧ t.rsp = Response.none) : BlockInv t := by
  have hread {α : Type} (g : State → α) : g (essence t) = g (essence s) := congrArg g he
  have hp : t.pstate = s.pstate := hread State.pstate
  have hcode : t.fcode = s.fcode := hread State.fcode
  have hinfo : t.finfo = s.finfo := hread State.finfo
  have htotal : t.total = s.total := hread State.total
  have hbaselo : t.baselo = s.baselo := hread State.baselo
  have hflag : t.flag = s.flag := hread State.flag
  have hlo : t.fndlo = s.fndlo := hread State.fndlo
  have hhi : t.fndhi = s.fndhi := hread State.fndhi
  have hctx : t.ctx = s.ctx := hread State.ctx
  exact
    { held := hheld
      noLanes := by rw [hp, hctx]; exact h.noLanes
      faulted := by rw [hp, hcode]; exact h.faulted
      noInfo := by rw [hcode, hinfo]; exact h.noInfo
      total := by rw [htotal, hbaselo]; exact h.total
      unfound := by rw [hp, hflag, hlo, hhi]; exact h.unfound
      phase := h.phase.congr hp (hread State.base) (hread State.tgt) (hread State.lanes)
        (hread State.quota) hflag (hread State.fnd) (hread State.rslt) hctx
      underReset := hrst }

/-- While a batch runs the invariant says that the base has not passed the target, what holds of the lanes, and that there is
no result (R14, R16). -/
theorem phaseOk_of_running {s : State} (hp : s.pstate = .running) :
    PhaseOk s ↔ s.base.val ≤ s.tgt.val ∧ BatchOk s ∧ s.rsltlo = 0 ∧ s.rslthi = 0 := by
  simp only [PhaseOk, hp]

/-- The environment's side is no part of the invariant (R29). -/
theorem BlockInv.withEnv {s : State} (h : BlockInv s) (e : Env) : BlockInv (s.withEnv e) :=
  h.of_essence rfl h.held h.underReset

/-- Nothing but the response and the results of the units changes: the invariant is kept. -/
theorem BlockInv.responded {s t : State} (h : BlockInv s) (he : essence t = essence s) (hp : t.syncPending = false)
    (hr : t.rst = false) : BlockInv t :=
  h.of_essence he (by simp [hp]) (by simp [hr])

/-- A transition between two protocol states that are not `Fault` leaves the record of faults; the rest of the invariant is
asked for. -/
theorem BlockInv.transit {s t : State} (h : BlockInv s) (hs : s.pstate ≠ .fault) (ht : t.pstate ≠ .fault)
    (hcode : t.fcode = s.fcode) (hinfo : t.finfo = s.finfo) (hheld : t.syncPending = true → t.pstate = .running)
    (hr : t.rst = false) (hlanes : t.pstate ≠ .running → t.ctx = []) (htotal : t.total = t.baselo)
    (hfnd : t.flag = false → t.fndlo = 0 ∧ t.fndhi = 0) (hphase : PhaseOk t) : BlockInv t :=
  { held := hheld
    noLanes := hlanes
    faulted := ⟨fun hf => absurd hf ht, fun hf => absurd (h.faulted.mpr (hcode ▸ hf)) hs⟩
    noInfo := by rw [hcode, hinfo]; exact h.noInfo
    total := htotal
    unfound := fun _ => hfnd
    phase := hphase
    underReset := by simp [hr] }

/-! ### Faults -/

/-- Fault entry keeps the invariant: the code is recorded, and no lane context is left. -/
theorem BlockInv.raise {s : State} (h : BlockInv s) (hr : s.rst = false) {c : FaultCode} (hc : c ≠ .none) :
    BlockInv (s.raise c) := by
  have hf := raise_entersFault s c
  obtain ⟨_, _, _, hrst, _⟩ := hf.port
  have hbaselo : (s.raise c).baselo = s.baselo := hf.others .baselo rfl
  have htotal : (s.raise c).total = s.total := hf.others .total rfl
  exact
    { held := nofun
      noLanes := fun _ => by
        by_cases hrun : s.pstate = .running
        · exact hf.lanes.1 hrun
        · exact (hf.lanes.2 hrun).trans (h.noLanes hrun)
      faulted := ⟨fun _ => hc, fun _ => rfl⟩
      noInfo := fun hn => absurd hn hc
      total := by rw [htotal, hbaselo, h.total]
      unfound := fun hn => absurd rfl hn
      phase := trivial
      underReset := by simp [hrst, hr] }

/-- What ends in `Fault` has recorded a code, or it was there before (R171, R175). -/
def FaultRecorded (s t : State) : Prop := t.pstate = .fault → s.pstate = .fault ∨ t.fcode ≠ .none

theorem FaultRecorded.of_pstate {s t : State} (h : t.pstate = s.pstate) : FaultRecorded s t :=
  fun hf => .inl (h.symm.trans hf)

theorem FaultRecorded.of_ne {s t : State} (h : t.pstate ≠ .fault) : FaultRecorded s t :=
  fun hf => absurd hf h

theorem FaultRecorded.raise (s : State) {c : FaultCode} (hc : c ≠ .none) : FaultRecorded s (s.raise c) :=
  fun _ => .inr hc

theorem FaultRecorded.whenAdmitted {s effect : State} (row : CommandRow) (h : FaultRecorded s effect) :
    FaultRecorded s (s.whenAdmitted row effect) := by
  obtain ⟨_, he⟩ | ⟨_, he⟩ | ⟨_, he⟩ := s.whenAdmitted_cases row effect <;> rw [he]
  · exact h
  · exact .raise s (by decide)
  · exact .of_pstate rfl

/-- Every fault that an instruction raises has one of R171's codes. -/
theorem faultRecorded_of_exec {i : Instr} {s t : State} (hi : isCommand i = true) (h : exec i s = .next t) :
    FaultRecorded s t := by
  cases i with
  | nop => cases h; exact .whenAdmitted _ (.of_pstate rfl)
  | wrr n =>
    simp only [exec, execWrr, Host.Outcome.next.injEq] at h
    subst h
    split
    · exact .of_pstate rfl
    · split
      · exact .raise s (by decide)
      · refine .whenAdmitted _ ?_
        split
        · exact .of_pstate (by simp)
        · exact .raise s (by decide)
  | rdr n =>
    simp only [exec, execRdr, Host.Outcome.next.injEq] at h
    subst h
    split
    · split
      · exact .of_pstate rfl
      · exact .raise s (by decide)
    · split
      · exact .of_pstate rfl
      · exact .whenAdmitted _ (.of_pstate rfl)
  | wadd | lstart | bmatch => cases h; exact .whenAdmitted _ (.of_pstate rfl)
  | breset => cases h; exact .whenAdmitted _ (.of_ne nofun)
  | launch =>
    cases h
    refine .whenAdmitted _ ?_
    split
    · exact .of_ne nofun
    · exact .raise s (by decide)
  | sync =>
    cases h
    refine .whenAdmitted _ ?_
    split
    · exact .of_ne nofun
    · exact .of_pstate rfl
  | next =>
    cases h
    refine .whenAdmitted _ ?_
    split
    · exact .of_ne nofun
    · exact .of_ne (by simp only [State.respond_pstate, State.withPState_pstate]; split <;> nofun)
  | lChk0 | lStart | lLoop | lChk | lCmp | lCas | lWrlo | lWrhi | lInc => cases hi

/-! ### The ends of a batch (R117, R137) -/

/-- When every lane has returned, the flag tells whether the target is in the batch, and the found value is the target:
a lane that returned under an unset flag has compared its whole range. -/
theorem BatchOk.outcome {s : State} (h : BatchOk s) (hret : s.allReturned = true) :
    (s.flag = true → s.fnd = s.tgt) ∧ (s.flag = true ↔ InBatch s) := by
  rw [s.allReturned_iff] at hret
  refine ⟨fun hf => h.written hf fun i l hl => by rw [hret i l hl]; rfl, h.inBatch, fun hin => ?_⟩
  obtain ⟨i, k, hi, hk, hc⟩ := (inBatch_iff_candidate s).mp hin
  obtain ⟨l, hl⟩ : ∃ l, s.ctx[i]? = some l := ⟨_, List.getElem?_eq_getElem (by rw [h.length]; exact hi)⟩
  by_contra hf
  refine (h.lane i l hl).missed (by simpa using hf) k ?_ hc
  simpa only [rejected, hret i l hl] using hk

/-- A target that lies at or above the base and not in the batch lies above the batch. -/
theorem base_add_le_tgt {s : State} (hle : s.base.val ≤ s.tgt.val) (hnot : ¬ InBatch s) :
    s.base.val + s.lanes.toNat * s.quota.toNat ≤ s.tgt.val := by
  by_contra hlt
  refine hnot ⟨s.tgt.val - s.base.val, by omega, ?_⟩
  rw [Nat.add_sub_cancel' hle, Nat.mod_eq_of_lt s.tgt.val_lt]

/-- In a safe state the advance of `NEXT` does not pass the target, and so does not overflow (R117, R137). -/
theorem advance_le_tgt {s : State} (hle : s.base.val ≤ s.tgt.val) (hlegal : s.launchLegal = true)
    (hnot : ¬ InBatch s) : (add s.base s.batchSize).2 = false ∧ (add s.base s.batchSize).1.val ≤ s.tgt.val := by
  obtain ⟨hval, hov⟩ := add_val_and_overflow s.base s.batchSize
  have hbound := base_add_le_tgt hle hnot
  have htgt := s.tgt.val_lt
  rw [State.batchSize_toNat hlegal] at hval hov
  refine ⟨Bool.eq_false_iff.mpr fun h => ?_, ?_⟩
  · have := hov.mp h
    omega
  · rw [hval, Nat.mod_eq_of_lt (by omega)]
    exact hbound

/-! ### The host commands -/

/-- A write outside `Config` is one of an operand (R23). -/
theorem essence_writeReg {s : State} {r : Reg} (v : Word) (hw : mayWrite r s.pstate = true) (hp : s.pstate ≠ .config) :
    essence (s.writeReg r v) = essence s := by
  cases r <;> first | rfl | exact absurd (eq_of_beq hw) hp

theorem BlockInv.wrote {s : State} (h : BlockInv s) (hr : s.rst = false) {r : Reg} (v : Word)
    (hw : mayWrite r s.pstate = true) : BlockInv ((s.writeReg r v).respond false 0) := by
  by_cases hp : s.pstate = .config
  · have hphase := h.phase
    have hlanes := h.noLanes (by simp [hp])
    have hfnd := h.unfound (by simp [hp])
    simp only [PhaseOk, hp] at hphase
    exact h.transit (by simp [hp]) (by simp [hp]) (by simp) (by simp) (by simp) (by simp [hr]) (by simp [hlanes])
      (by simpa using h.total) (by simpa using hfnd) (by simpa [PhaseOk, hp] using hphase)
  · exact h.responded (essence_writeReg v hw hp) rfl (by simp [hr])

/-- R133: from `Config` the base is 0, and from `Idle` it has not passed the target. -/
theorem BlockInv.armed {s : State} (h : BlockInv s) (hr : s.rst = false) (hp : s.pstate = .config ∨ s.pstate = .idle) :
    BlockInv ((s.clearBatch.withPState .armed).respond false 0) := by
  have hphase := h.phase
  obtain hp | hp := hp <;> simp only [PhaseOk, hp] at hphase
  · obtain ⟨hlo, hhi, _, hrlo, hrhi⟩ := hphase
    have hle : s.base.val ≤ s.tgt.val := by simp [State.base, Wide.val, hlo, hhi]
    exact h.transit (by simp [hp]) nofun rfl rfl nofun hr (fun _ => h.noLanes (by simp [hp])) h.total
      (fun _ => ⟨rfl, rfl⟩) ⟨hle, rfl, hrlo, hrhi⟩
  · obtain ⟨hle, _, hrslt⟩ := hphase
    exact h.transit (by simp [hp]) nofun rfl rfl nofun hr (fun _ => h.noLanes (by simp [hp])) h.total
      (fun _ => ⟨rfl, rfl⟩) ⟨hle, rfl, hrslt⟩

/-- R134: a legal configuration and an unset flag are all a batch of fresh lanes asks for. -/
theorem batchOk_of_launch {s : State} (hlegal : s.launchLegal = true) (hflag : s.flag = false) :
    BatchOk s.createLanes := by
  have hfresh : ∀ (i : Nat) (l : Lane), s.createLanes.ctx[i]? = some l → i < s.lanes.toNat ∧ l = freshLane s.draws i :=
    fun i l hl => (s.createLanes_getElem? i l).mp hl
  have hnone : ∀ (i : Nat) (l : Lane), s.createLanes.ctx[i]? = some l → isWriter l.phase = false :=
    fun i l hl => by rw [(hfresh i l hl).2]; rfl
  exact
    { legal := hlegal
      length := by simp
      lane := fun i l hl => by
        obtain ⟨hi, rfl⟩ := hfresh i l hl
        refine laneOk_of_fresh (.inl rfl) ?_
        exact (BitVec.toNat_ofNat i 64).trans (Nat.mod_eq_of_lt (hi.trans s.lanes.isLt))
      writer := fun i j l m hl hm hw _ => by simp [hnone i l hl] at hw
      written := fun hf => by simp [hflag] at hf
      inBatch := fun hf => by simp [hflag] at hf }

theorem BlockInv.launched {s : State} (h : BlockInv s) (hr : s.rst = false) (hp : s.pstate = .armed)
    (hlegal : s.launchLegal = true) : BlockInv ((s.createLanes.withPState .running).respond false 0) := by
  have hphase := h.phase
  simp only [PhaseOk, hp] at hphase
  obtain ⟨hle, hflag, hrslt⟩ := hphase
  exact h.transit (by simp [hp]) nofun rfl rfl nofun hr (absurd rfl) h.total (h.unfound (by simp [hp]))
    ⟨hle, (batchOk_of_launch hlegal hflag).congr rfl rfl rfl rfl rfl rfl rfl, hrslt⟩

/-- R136: what the lanes have found is the batch's outcome. -/
theorem BlockInv.synced {s : State} (h : BlockInv s) (hr : s.rst = false) (hp : s.pstate = .running)
    (hret : s.allReturned = true) : BlockInv ((s.discardLanes.withPState .synced).respond false 0) := by
  obtain ⟨hle, hbatch, hrslt⟩ := (phaseOk_of_running hp).mp h.phase
  obtain ⟨hfnd, hin⟩ := hbatch.outcome hret
  exact h.transit (by simp [hp]) nofun rfl rfl nofun hr (fun _ => rfl) h.total (h.unfound (by simp [hp]))
    ⟨hle, hbatch.legal, hfnd, hin, hrslt⟩

/-- R137: the result is the found value, which is the target. -/
theorem BlockInv.found {s : State} (h : BlockInv s) (hr : s.rst = false) (hp : s.pstate = .synced)
    (hf : s.flag = true) : BlockInv ((s.takeResult.withPState .doneFound).respond false 0) := by
  have hphase := h.phase
  simp only [PhaseOk, hp] at hphase
  obtain ⟨_, _, hfnd, hin, _⟩ := hphase
  exact h.transit (by simp [hp]) nofun rfl rfl nofun hr (fun _ => h.noLanes (by simp [hp])) h.total
    (h.unfound (by simp [hp])) ⟨hf, hfnd hf, hfnd hf, hin.mp hf⟩

/-- R117, R137: with the flag unset the target is not in the batch, so the base advances to `Idle` and stays at or below the
target. -/
theorem BlockInv.advanced {s t : State} (h : BlockInv s) (hr : s.rst = false) (hp : s.pstate = .synced)
    (hf : s.flag = false) (hx : Machine.exec .next s = .next t) : BlockInv t := by
  have hphase := h.phase
  simp only [PhaseOk, hp] at hphase
  obtain ⟨hle, hlegal, _, hin, hrslt⟩ := hphase
  obtain ⟨hov, hbase⟩ := advance_le_tgt hle hlegal fun hb => by simp [hin.mpr hb] at hf
  have hidle : Machine.exec .next s = .next ((s.advance.withPState .idle).respond false 0) := by
    simp [Machine.exec, execNext, State.whenAdmitted, admission, hp, hf, hov]
  obtain rfl := Host.Outcome.next.inj (hidle.symm.trans hx)
  have htotal : s.total + s.batchSize = s.baselo + s.batchSize := by rw [h.total]
  exact h.transit (by simp [hp]) nofun rfl rfl nofun hr (fun _ => h.noLanes (by simp [hp])) htotal
    (h.unfound (by simp [hp])) ⟨hbase, hf, hrslt⟩

/-! ### The micro-operations -/

/-- A turn that leaves the flag unset writes nothing: only a claim or a winner's lane writes (R111 to R113). -/
theorem LaneOk.withWrite_of_unset {s : State} {i : Nat} {l : Lane} (h : LaneOk s i l)
    (hf : (Safety.withWrite s l).flag = false) : Safety.withWrite s l = s := by
  have hclaimed := h.claimed
  cases hp : l.phase <;> simp only [Safety.withWrite, hp] at hf hclaimed ⊢
  case cas => cases hf
  case wrlo | wrhi => exact absurd ((hclaimed rfl).symm.trans hf) (by simp)

theorem BlockInv.exec_micro {s t : State} {i : Instr} (h : BlockInv s) (hr : s.rst = false)
    (hi : isCommand i = false) (hx : Machine.exec i s = .next t) : BlockInv t := by
  obtain ⟨l, hp, hl, _, rfl⟩ := afterTurn_of_exec hi hx
  obtain ⟨hle, hbatch, hrslt⟩ := (phaseOk_of_running hp).mp h.phase
  have hunset := (hbatch.lane _ _ hl).withWrite_of_unset
  have hkept := hbatch.exec hi hx
  have hfnd : (afterTurn s l).flag = false → (afterTurn s l).fndlo = 0 ∧ (afterTurn s l).fndhi = 0 := by
    intro hf
    have hsame : withWrite s l = s := hunset hf
    rw [afterTurn, hsame] at hf ⊢
    exact h.unfound (by simp [hp]) hf
  obtain ⟨f, lo, hi, hw⟩ := withWrite_touches s l
  rw [afterTurn, hw] at hkept hfnd ⊢
  refine h.transit (by simp [hp]) (by simp [hp]) rfl rfl (fun _ => hp) hr (absurd hp) h.total hfnd ?_
  exact (phaseOk_of_running (by exact hp)).mpr ⟨hle, hkept, hrslt⟩

/-! ### Every step -/

/-- Every instruction keeps the invariant. -/
theorem BlockInv.exec {s t : State} {i : Instr} (h : BlockInv s) (hr : s.rst = false)
    (hx : Machine.exec i s = .next t) : BlockInv t := by
  cases executes_of_exec hx with
  | refused | nothing | read | drawn | computed => exact h.responded rfl rfl hr
  | faulted c hc _ hf => exact h.raise hr ((faultRecorded_of_exec hc hx rfl).resolve_left hf)
  | wrote _ hw => exact h.wrote hr _ hw
  | armed hp => exact h.armed hr hp
  | launched hp hlegal => exact h.launched hr hp hlegal
  | synced hp hret => exact h.synced hr hp hret
  | held hp => exact h.of_essence rfl (fun _ => hp) (by simp [hr])
  | found hp hf => exact h.found hr hp hf
  | advanced hp hf => exact h.advanced hr hp hf hx
  | stepped _ _ _ _ hi => exact h.exec_micro hr hi hx

theorem BlockInv.turns {u t : State} (h : BlockInv u) (hr : u.rst = false) (ht : Turns u t) : BlockInv t := by
  cases ht with
  | passed => exact h
  | illegal =>
    unfold State.illegalCommand
    split
    · exact h.responded rfl rfl hr
    · exact h.raise hr (by decide)
  | ran hx => exact h.exec hr hx

/-- The reset state meets the invariant, at either level of the input (R201). -/
theorem blockInv_resetBlock (s : State) (level : Bool) : BlockInv (s.resetBlock level) where
  held := nofun
  noLanes _ := rfl
  faulted := ⟨nofun, fun h => absurd rfl h⟩
  noInfo _ := rfl
  total := rfl
  unfound _ _ := ⟨rfl, rfl⟩
  phase := ⟨rfl, rfl, rfl, rfl, rfl⟩
  underReset _ := ⟨rfl, rfl, rfl⟩

theorem BlockInv.driveRst {s : State} (h : BlockInv s) (level : Bool) : BlockInv (s.driveRst level) := by
  unfold State.driveRst
  split
  · exact blockInv_resetBlock s level
  · exact h

/-- With no turn to come nothing moves. -/
theorem step_of_no_turn {s : State} (hts : s.env.turns = []) : step s = .next s :=
  step_of_fetch_settled (by simp only [fetch, hts])

/-- Under reset a turn of another agent passes (R200). -/
theorem step_of_rst {s : State} (hr : s.rst = true) (hn : nextTurnIsReset s = false) :
    ∃ e, step s = .next (s.withEnv e) := by
  have hhost (e : Env) : fetchHost (s.withEnv e) = .settled (s.withEnv e) := by simp [fetchHost, hr]
  have hlane (e : Env) : fetchLane (s.withEnv e) = .settled (s.withEnv e) := by simp [fetchLane, hr]
  cases hts : s.env.turns with
  | nil => exact ⟨s.env, step_of_no_turn hts⟩
  | cons turn rest =>
    cases turn with
    | host f => exact ⟨_, step_of_fetch_settled ((fetch_of_host_turn hts).trans (hhost _))⟩
    | lane k b => exact ⟨_, step_of_fetch_settled ((fetch_of_lane_turn hts).trans (hlane _))⟩
    | rst level => simp [nextTurnIsReset, hts] at hn

/-- Every step, of any agent under any schedule and any draws, keeps the block's invariant. -/
theorem BlockInv.step {s t : State} (h : BlockInv s) (hx : Machine.step s = .next t) : BlockInv t := by
  cases hn : nextTurnIsReset s with
  | true =>
    unfold nextTurnIsReset at hn
    split at hn
    · next hts =>
      rw [step_of_rst_turn hts] at hx
      exact Host.Outcome.next.inj hx ▸ (h.withEnv _).driveRst _
    · cases hn
  | false =>
    cases hr : s.rst with
    | true =>
      obtain ⟨e, he⟩ := step_of_rst hr hn
      exact Host.Outcome.next.inj (he.symm.trans hx) ▸ h.withEnv e
    | false =>
      obtain ⟨e, c, r, ht⟩ := turns_of_step hn hx
      exact (h.of_essence (t := { s with env := e, cmd := c, rsp := r }) rfl h.held (by simp [hr])).turns hr ht

/-! ### Every run -/

/-- What every step keeps, every run keeps. -/
theorem run_induction {P : State → Prop} (hP : ∀ s t, P s → Machine.step s = .next t → P t) :
    ∀ (k : Nat) (s t : State), P s → run k s = .next t → P t
  | 0, s, t, hs, h => Host.Outcome.next.inj h ▸ hs
  | k + 1, s, t, hs, h => by
    obtain ⟨u, hu⟩ := everyStepHasASuccessor s
    rw [run, hu] at h
    exact run_induction hP k u t (hP s u hs hu) h

theorem BlockInv.run {s t : State} {k : Nat} (h : BlockInv s) (hx : Safety.run k s = .next t) : BlockInv t :=
  run_induction (fun _ _ hs hu => hs.step hu) k s t h hx

/-- Settles O57: the invariant has no state in `DoneExhausted`, and in `DoneFound` the result is the target. -/
theorem runsFromResetReportTheTarget : Obligations.RunsFromResetReportTheTarget := by
  intro k offers turns t h
  have hreset := (blockInv_resetBlock State.reset false).withEnv { Env.quiet with offers := offers, turns := turns }
  have hphase : PhaseOk t := (hreset.run h).phase
  refine ⟨fun hp => ?_, fun hp => ?_⟩ <;> simp only [PhaseOk, hp] at hphase
  · obtain ⟨_, _, hrslt, _⟩ := hphase
    exact ⟨hrslt, congrArg wideBytes hrslt⟩

end Sys2Proof.Safety
end

section
/-! PROOFS. A batch under its schedules (R118, R119, R136, R214): what the turn of a lane and of a held `SYNC` comes to, that
every fair schedule ends the batch, and that every schedule that ends it ends it with the same outcome. -/

namespace Sys2Proof.Safety

open Sys2Proof Sys2Proof.Machine

/-! ### The turns of a running batch -/

/-- The state in which lane `k` takes its turn: the turn is off the schedule, and its draw is in place (R5, R29). -/
def takeTurn (s : State) (k : Nat) (b : Bool) (ts : List Turn) : State :=
  s.withEnv { s.env with turns := ts, lane := k, stale := b }

/-- In RET a turn changes nothing (R115). -/
theorem afterTurn_of_ret {s : State} {l : Lane} (hl : s.ctx[s.env.lane]? = some l) (hp : l.phase = .ret) :
    afterTurn s l = s := by
  obtain ⟨hlt, rfl⟩ := List.getElem?_eq_some_iff.mp hl
  simp only [afterTurn, withWrite, nextLane, hp]
  rw [State.setLane, List.set_getElem_self]

theorem eq_ret_of_phaseInstr {p : Phase} {e : Reject} (h : phaseInstr p = .error e) : p = .ret := by
  cases p <;> first | rfl | cases h

/-- The turn of a lane, in RET too, where it passes (R104, R115). -/
theorem step_of_lane_turn {s : State} {k : Nat} {b : Bool} {ts : List Turn} {l : Lane}
    (hts : s.env.turns = .lane k b :: ts) (hr : s.rst = false) (hrun : s.pstate = .running)
    (hl : s.ctx[k]? = some l) : step s = .next (afterTurn (takeTurn s k b ts) l) := by
  cases hd : phaseInstr l.phase with
  | ok i =>
    have hstep := stepRunsTheDecodedInstruction.2.1 s k b ts l i hts hr hrun hl ((decodePhase_code _).trans hd)
    exact hstep.trans (exec_of_lane hrun hl hd)
  | error e =>
    have hturn : (takeTurn s k b ts).turnLane = some l := (State.turnLane_eq_some _).mpr ⟨hrun, hl⟩
    rw [afterTurn_of_ret hl (eq_ret_of_phaseInstr hd)]
    refine step_of_fetch_settled ((fetch_of_lane_turn hts).trans ?_)
    simp only [takeTurn] at hturn
    simp only [fetchLane, takeTurn, hturn, decodePhase_code, hd, ite_self]

/-- The turn of a lane that is none of the batch's passes (R25). -/
theorem step_of_no_lane {s : State} {k : Nat} {b : Bool} {ts : List Turn} (hts : s.env.turns = .lane k b :: ts)
    (hl : s.pstate = .running → s.ctx[k]? = none) : step s = .next (takeTurn s k b ts) := by
  have hturn : (takeTurn s k b ts).turnLane = none := by
    by_cases hrun : s.pstate = .running
    · simp [takeTurn, State.turnLane, hrun, hl hrun]
    · simp [takeTurn, State.turnLane, hrun]
  refine step_of_fetch_settled ((fetch_of_lane_turn hts).trans ?_)
  simp only [takeTurn] at hturn
  simp only [fetchLane, takeTurn, hturn, ite_self]

/-- `t` is of the batch of `s`: the target, the partition, BASE and TOTAL are as they were, the host offers what it did, and
the schedule still to come is `ts`. -/
structure SameBatch (s t : State) (ts : List Turn) : Prop where
  parameters : parameters t = parameters s
  progress : progress t = progress s
  rst : t.rst = s.rst
  offers : t.env.offers = s.env.offers
  turns : t.env.turns = ts

/-- The `SYNC` of the batch is held. -/
def Held (s : State) : Prop := s.pstate = .running ∧ s.syncPending = true

/-- The `SYNC` of the batch has completed. -/
def Ended (s : State) : Prop := s.pstate = .synced ∧ s.syncPending = false

/-- The port's turn while a `SYNC` is held completes it when every lane has returned, and leaves it held until then
(R136). -/
theorem held_sync_turn {s : State} {f : Bool} {ts : List Turn} (hts : s.env.turns = .host f :: ts)
    (hr : s.rst = false) (hs : Held s) :
    ∃ t, step s = .next t ∧ SameBatch s t ts ∧
      (Ended t ∧ t.ctx = [] ∧ t.rsp = okResponse 0 ∨ Held t ∧ s.allReturned = false) := by
  obtain ⟨hrun, hp⟩ := hs
  have hstep := (stepRunsTheDecodedInstruction.2.2 s f ts hts hr hp).trans (exec_sync_of_running hrun)
  cases hret : s.allReturned with
  | true =>
    rw [if_pos (by exact hret)] at hstep
    exact ⟨_, hstep, ⟨rfl, rfl, rfl, rfl, rfl⟩, .inl ⟨⟨rfl, rfl⟩, rfl, rfl⟩⟩
  | false =>
    rw [if_neg (by exact ne_true_of_eq_false hret)] at hstep
    exact ⟨_, hstep, ⟨rfl, rfl, rfl, rfl, rfl⟩, .inr ⟨⟨hrun, rfl⟩, rfl⟩⟩

/-- What a lane's turn makes of the lanes: the turn's lane comes one step nearer to RET unless it is there, and every other
lane stays as it is (R118). -/
def Nearer (s : State) (k : Nat) (ctx : List Lane) : Prop :=
  ∀ (j : Nat) (m : Lane), ctx[j]? = some m → ∃ l, s.ctx[j]? = some l ∧ (j ≠ k → m = l) ∧
    (j = k → stepsLeft s.quota.toNat m ≤ stepsLeft s.quota.toNat l - 1)

theorem LaneOk.stepsLeft_nextLane_le {s : State} {i : Nat} {l : Lane} (h : LaneOk s i l) :
    stepsLeft s.quota.toNat (Safety.nextLane s l) ≤ stepsLeft s.quota.toNat l - 1 := by
  by_cases hp : l.phase = .ret
  · simp [Safety.nextLane, stepsLeft, hp]
  · exact Nat.le_sub_one_of_lt (h.stepsLeft_nextLane_lt hp)

theorem sameBatch_afterTurn (s : State) (l : Lane) : SameBatch s (afterTurn s l) s.env.turns := by
  obtain ⟨f, lo, hi, hw⟩ := withWrite_touches s l
  rw [afterTurn, hw]
  exact ⟨rfl, rfl, rfl, rfl, rfl⟩

theorem held_afterTurn {s : State} (h : Held s) (l : Lane) : Held (afterTurn s l) := by
  obtain ⟨f, lo, hi, hw⟩ := withWrite_touches s l
  rw [afterTurn, hw]
  exact h

/-- A lane's turn while a `SYNC` is held leaves it held, and brings no lane farther from RET. -/
theorem held_lane_turn {s : State} {k : Nat} {b : Bool} {ts : List Turn} (h : BatchOk s)
    (hts : s.env.turns = .lane k b :: ts) (hr : s.rst = false) (hs : Held s) :
    ∃ t, step s = .next t ∧ SameBatch s t ts ∧ Held t ∧ Nearer s k t.ctx := by
  cases hl : s.ctx[k]? with
  | none =>
    refine ⟨_, step_of_no_lane hts fun _ => hl, ⟨rfl, rfl, rfl, rfl, rfl⟩, hs, fun j m hm => ⟨m, hm, fun _ => rfl, ?_⟩⟩
    rintro rfl
    exact absurd (hl.symm.trans hm) nofun
  | some l =>
    have hlane : LaneOk (takeTurn s k b ts) k l := (h.lane k l hl).congr rfl rfl rfl rfl rfl
    obtain ⟨hparams, hprog, hrst, hoffers, hturns⟩ := sameBatch_afterTurn (takeTurn s k b ts) l
    refine ⟨_, step_of_lane_turn hts hr hs.1 hl, ⟨hparams, hprog, hrst, hoffers, hturns⟩,
      held_afterTurn (s := takeTurn s k b ts) hs l, fun j m hm => ?_⟩
    obtain ⟨rfl, rfl⟩ | ⟨hj, hm⟩ := afterTurn_getElem? hm
    · exact ⟨l, hl, absurd rfl, fun _ => hlane.stepsLeft_nextLane_le⟩
    · exact ⟨m, hm, fun _ => rfl, fun h => absurd h hj⟩

/-- Settles O58: the turn's lane takes the step of its phase, which lowers its bound. -/
theorem everyLaneStepComesNearerToReturn : Obligations.EveryLaneStepComesNearerToReturn := by
  intro s t k b ts l h hts hr hrun hl hp hstep
  obtain rfl := Host.Outcome.next.inj ((step_of_lane_turn hts hr hrun hl).symm.trans hstep)
  have hlane : LaneOk (takeTurn s k b ts) k l :=
    (((phaseOk_of_running hrun).mp h.phase).2.1.lane k l hl).congr rfl rfl rfl rfl rfl
  obtain ⟨f, lo, hi, hw⟩ := withWrite_touches (takeTurn s k b ts) l
  have hlt : k < s.ctx.length := (List.getElem?_eq_some_iff.mp hl).1
  rw [afterTurn, hw]
  exact ⟨hrun, ⟨_, List.getElem?_set_self hlt, hlane.stepsLeft_nextLane_lt hp⟩,
    fun j hj => List.getElem?_set_ne hj.symm⟩

/-! ### A fair schedule ends the batch (R118, R136, R214) -/

theorem turnsOf_cons (i k : Nat) (b : Bool) (ts : List Turn) :
    turnsOf i (.lane k b :: ts) = turnsOf i ts + if k = i then 1 else 0 := by
  simp [turnsOf, List.countP_cons]

/-- The bound at creation bounds every later bound (R118). -/
theorem LaneOk.stepsLeft_le {s : State} {i : Nat} {l : Lane} (h : LaneOk s i l) :
    stepsLeft s.quota.toNat l ≤ 4 * s.quota.toNat + 4 := by
  have hquota := h.quota
  cases hp : l.phase <;> simp only [hp, holdsCandidate] at hquota <;> simp only [stepsLeft, hp]
  case loop | chk | cmp | inc => have := hquota rfl; omega
  all_goals omega

/-- A lane with no steps left has returned. -/
theorem LaneOk.ret_of_stepsLeft {s : State} {i : Nat} {l : Lane} (h : LaneOk s i l)
    (hz : stepsLeft s.quota.toNat l = 0) : l.phase = .ret := by
  by_contra hp
  have := h.stepsLeft_nextLane_lt hp
  omega

/-- The schedule gives each lane at least as many turns as the lane has steps left. -/
def Fair (s : State) (ts : List Turn) : Prop :=
  ∀ (i : Nat) (l : Lane), s.ctx[i]? = some l → stepsLeft s.quota.toNat l ≤ turnsOf i ts

theorem Fair.after_turn {s t : State} {k : Nat} {b : Bool} {ts : List Turn} (h : Fair s (.lane k b :: ts))
    (hn : Nearer s k t.ctx) (hq : t.quota = s.quota) : Fair t ts := by
  intro j m hm
  obtain ⟨l, hl, hsame, hless⟩ := hn j m hm
  have hle := h j l hl
  rw [turnsOf_cons] at hle
  rw [hq]
  split at hle
  · next hj =>
    have := hless hj.symm
    omega
  · next hj => rwa [hsame (Ne.symm hj)]

/-- With the turns used up that were as many as the steps left, every lane has returned. -/
theorem allReturned_of_fair {s : State} (h : BatchOk s) (hf : Fair s []) : s.allReturned = true :=
  s.allReturned_iff.mpr fun i l hl => (h.lane i l hl).ret_of_stepsLeft (Nat.le_zero.mp (hf i l hl))

theorem batchOk_of_held {s : State} (h : BlockInv s) (hs : Held s) : BatchOk s :=
  ((phaseOk_of_running hs.1).mp h.phase).2.1

/-- A held `SYNC` completes at the port's turn after a fair schedule of lane turns. -/
theorem sync_completes (f : Bool) : ∀ (ts : List Turn) (s : State), BlockInv s → Held s → s.rst = false →
    s.env.turns = ts ++ [.host f] → onlyLanes ts = true → Fair s ts →
    ∃ t, run (ts.length + 1) s = .next t ∧ t.pstate = .synced ∧ t.ctx = [] ∧ t.rsp = okResponse 0
  | [], s, h, hs, hr, hts, _, hf => by
    have hret := allReturned_of_fair (batchOk_of_held h hs) hf
    obtain ⟨t, hstep, _, ⟨hend, hctx, hrsp⟩ | ⟨_, hnot⟩⟩ := held_sync_turn hts hr hs
    · exact ⟨t, by simp only [List.length_nil, run, hstep], hend.1, hctx, hrsp⟩
    · exact absurd (hret.symm.trans hnot) (by decide)
  | .lane k b :: ts, s, h, hs, hr, hts, hl, hf => by
    obtain ⟨t, hstep, hsame, ht, hn⟩ := held_lane_turn (batchOk_of_held h hs) hts hr hs
    have hq : t.quota = s.quota := congrArg (fun p => p.2.2) hsame.parameters
    rw [List.length_cons, run, hstep]
    exact sync_completes f ts t (h.step hstep) ht (hsame.rst.trans hr) hsame.turns (by simpa [onlyLanes] using hl)
      (hf.after_turn hn hq)
  | .host _ :: _, _, _, _, _, _, hl, _ | .rst _ :: _, _, _, _, _, _, hl, _ => by simp [onlyLanes] at hl

/-- Settles O59: `4*Q + 4` turns are as many as any lane has steps left. -/
theorem syncCompletesUnderAFairSchedule : Obligations.SyncCompletesUnderAFairSchedule := by
  intro s ts f h hrun hr hp hts hl hfair
  have hbatch : BatchOk s := batchOk_of_held h ⟨hrun, hp⟩
  refine sync_completes f ts s h ⟨hrun, hp⟩ hr hts hl fun i l hi => ?_
  have hlt : i < s.lanes.toNat := hbatch.length ▸ (List.getElem?_eq_some_iff.mp hi).1
  exact (hbatch.lane i l hi).stepsLeft_le.trans (hfair i hlt)

/-! ### Every schedule ends the batch alike (R117, R119) -/

/-- `u` is a state of a run of the batch of `s`: its `SYNC` is held or has completed, no other command is offered, and no
reset is to come. -/
structure RunOf (s u : State) : Prop where
  inv : BlockInv u
  rst : u.rst = false
  offers : u.env.offers = []
  turns : noReset u.env.turns = true
  parameters : parameters u = parameters s
  progress : progress u = progress s
  port : Held u ∨ Ended u

/-- A step within the batch leads to a state of its run. -/
theorem RunOf.of_sameBatch {s u v : State} {ts : List Turn} (h : RunOf s u) (hx : Machine.step u = .next v)
    (hsame : SameBatch u v ts) (hn : noReset ts = true) (hport : Held v ∨ Ended v) : RunOf s v :=
  { inv := h.inv.step hx
    rst := hsame.rst.trans h.rst
    offers := hsame.offers.trans h.offers
    turns := hsame.turns.symm ▸ hn
    parameters := hsame.parameters.trans h.parameters
    progress := hsame.progress.trans h.progress
    port := hport }

theorem noReset_tail {turn : Turn} {ts : List Turn} (h : noReset (turn :: ts) = true) : noReset ts = true :=
  (Bool.and_eq_true_iff.mp h).2

/-- After the `SYNC` nothing is offered, and the port's turn passes. -/
theorem step_of_no_offer {s : State} {f : Bool} {ts : List Turn} (hts : s.env.turns = .host f :: ts)
    (hp : s.syncPending = false) (ho : s.env.offers = []) :
    step s = .next (s.withEnv { s.env with turns := ts, dispatchFails := f }) := by
  have hpass (e : Env) (he : e.offers = []) : fetchHost (s.withEnv e) = .settled (s.withEnv e) := by
    simp [fetchHost, hp, he]
  exact step_of_fetch_settled ((fetch_of_host_turn hts).trans (hpass _ ho))

/-- Each turn of such a run stays in it: a lane's, the held `SYNC`'s, or one that passes. -/
theorem RunOf.exists_step {s u : State} (h : RunOf s u) : ∃ v, Machine.step u = .next v ∧ RunOf s v := by
  have hn := h.turns
  cases hts : u.env.turns with
  | nil => exact ⟨u, step_of_no_turn hts, h⟩
  | cons turn ts =>
    rw [hts] at hn
    cases turn with
    | host f =>
      obtain hheld | hend := h.port
      · obtain ⟨v, hx, hsame, hport⟩ := held_sync_turn hts h.rst hheld
        exact ⟨v, hx, h.of_sameBatch hx hsame (noReset_tail hn) (hport.symm.imp And.left And.left)⟩
      · have hx := step_of_no_offer hts hend.2 h.offers
        exact ⟨_, hx, h.of_sameBatch hx ⟨rfl, rfl, rfl, rfl, rfl⟩ (noReset_tail hn) (.inr hend)⟩
    | lane k b =>
      obtain hheld | hend := h.port
      · obtain ⟨v, hx, hsame, hport, _⟩ := held_lane_turn (batchOk_of_held h.inv hheld) hts h.rst hheld
        exact ⟨v, hx, h.of_sameBatch hx hsame (noReset_tail hn) (.inl hport)⟩
      · have hx := step_of_no_lane hts fun hrun => absurd (hend.1.symm.trans hrun) nofun
        exact ⟨_, hx, h.of_sameBatch hx ⟨rfl, rfl, rfl, rfl, rfl⟩ (noReset_tail hn) (.inr hend)⟩
    | rst level => cases hn

theorem RunOf.step {s u v : State} (h : RunOf s u) (hx : Machine.step u = .next v) : RunOf s v := by
  obtain ⟨w, hw, hrun⟩ := h.exists_step
  exact Host.Outcome.next.inj (hw.symm.trans hx) ▸ hrun

/-- In `Synced` the found registers say whether the target is in the batch, and nothing of the schedule. -/
theorem RunOf.outcome {s t : State} (h : RunOf s t) (hp : t.pstate = .synced) :
    (t.flag = true ↔ InBatch s) ∧ (t.flag = true → t.fnd = s.tgt) ∧ (t.flag = false → t.fndlo = 0 ∧ t.fndhi = 0) := by
  have hphase := h.inv.phase
  simp only [PhaseOk, hp] at hphase
  obtain ⟨_, _, hfnd, hin, _⟩ := hphase
  have hparams := h.parameters
  simp only [Safety.parameters, Prod.mk.injEq] at hparams
  obtain ⟨htgt, hlanes, hquota⟩ := hparams
  have hbase : t.base = s.base := congrArg Prod.fst h.progress
  exact ⟨hin.trans (InBatch.congr hbase htgt hlanes hquota), fun hf => (hfnd hf).trans htgt,
    h.inv.unfound (by simp [hp])⟩

/-- Two ends of one batch agree on BatchState. -/
theorem RunOf.agree {s t₁ t₂ : State} (h₁ : RunOf s t₁) (h₂ : RunOf s t₂) (hp₁ : t₁.pstate = .synced)
    (hp₂ : t₂.pstate = .synced) : t₁.flag = t₂.flag ∧ t₁.fndlo = t₂.fndlo ∧ t₁.fndhi = t₂.fndhi := by
  obtain ⟨hin₁, hfnd₁, hnone₁⟩ := h₁.outcome hp₁
  obtain ⟨hin₂, hfnd₂, hnone₂⟩ := h₂.outcome hp₂
  have hflag : t₁.flag = t₂.flag := Bool.eq_iff_iff.mpr (hin₁.trans hin₂.symm)
  cases hf : t₂.flag with
  | true =>
    have hfnd : t₁.fnd = t₂.fnd := (hfnd₁ (hflag.trans hf)).trans (hfnd₂ hf).symm
    exact ⟨hflag.trans hf, congrArg Wide.lo hfnd, congrArg Wide.hi hfnd⟩
  | false =>
    obtain ⟨hlo₁, hhi₁⟩ := hnone₁ (hflag.trans hf)
    obtain ⟨hlo₂, hhi₂⟩ := hnone₂ hf
    exact ⟨hflag.trans hf, hlo₁.trans hlo₂.symm, hhi₁.trans hhi₂.symm⟩

theorem RunOf.start {s : State} (h : BlockInv s) (hrun : s.pstate = .running) (hr : s.rst = false)
    (hp : s.syncPending = true) {ts : List Turn} (hn : noReset ts = true) :
    RunOf s (s.withEnv { s.env with offers := [], turns := ts }) :=
  ⟨h.withEnv _, hr, rfl, hn, rfl, rfl, .inl ⟨hrun, hp⟩⟩

theorem RunOf.run {s u t : State} {k : Nat} (h : RunOf s u) (hx : Safety.run k u = .next t) : RunOf s t :=
  run_induction (fun _ _ hu hv => hu.step hv) k u t h hx

/-- Settles O60: every state of either run is one of the batch, and its ends agree. -/
theorem outcomeIsIndependentOfTheSchedule : Obligations.OutcomeIsIndependentOfTheSchedule := by
  intro s ts₁ ts₂ k₁ k₂ t₁ t₂ h hrun hr hp hn₁ hn₂ hx₁ hx₂
  exact ((RunOf.start h hrun hr hp hn₁).run hx₁).agree ((RunOf.start h hrun hr hp hn₂).run hx₂)

end Sys2Proof.Safety
end

section
/-! PROOFS. The host's commands where they are admitted (R130 to R137): the access commands `NOP` and `WRR`, and the four
commands that lead a batch from `Config` to its end. -/

namespace Sys2Proof.Safety

open Sys2Proof Sys2Proof.Machine

/-! ### `NOP` and `WRR` -/

/-- Settles O16: the row of `NOP` in the admission table holds `ok` alone. -/
theorem nopCompletes : Obligations.NopCompletes := fun _ =>
  congrArg Host.Outcome.next (whenAdmitted_of_ok _ rfl)

/-- A write right is no `RO`, and `WRR` with it writes the register (R23, R131). -/
theorem exec_wrr_of_right {s : State} {n : RegNum} {r : Reg} (hr : Reg.ofNum n = some r) (hrun : s.pstate ≠ .running)
    (hf : s.pstate ≠ .fault)
    (hw : r ∈ [.opalo, .opahi, .opd, .opx, .opq] ∨ (r ∈ [.tgtlo, .tgthi, .lanes, .quota] ∧ s.pstate = .config)) :
    regAccess r ≠ .ro ∧ exec (.wrr n) s = .next ((s.writeReg r s.cmd.wdata).respond false 0) := by
  obtain ⟨_, hrw, hrwc, hwrites, hwritesInConfig, _⟩ := writeRights s n r hr hrun hf
  obtain hmem | ⟨hmem, hc⟩ := hw
  · exact ⟨by rw [hrw.mpr hmem]; decide, hwrites hmem⟩
  · exact ⟨by rw [hrwc.mpr hmem]; decide, hwritesInConfig hmem hc⟩

/-- Settles O17: the registers by the rules of `writeReg`, and the rest by what it leaves unchanged. -/
theorem wrrWritesOneRegister : Obligations.WrrWritesOneRegister := by
  intro s n r hr hrun hf hw
  obtain ⟨hro, hx⟩ := exec_wrr_of_right hr hrun hf hw
  refine ⟨_, hx, ?same, fun q hq => ?other, rfl, rfl, ?frame⟩
  case same => rw [readReg_respond, State.readReg_writeReg_same hro]
  case other => rw [readReg_respond, State.readReg_writeReg_other hq]
  case frame => simp

/-! ### `BRESET` -/

/-- Settles O25: the admission table lets `BRESET` run in both states. -/
theorem bresetArms : Obligations.BresetArms := fun _ hp =>
  congrArg Host.Outcome.next (whenAdmitted_of_ok _ (by obtain hp | hp := hp <;> rw [hp] <;> rfl))

/-! ### `LAUNCH` -/

/-- In `Armed` the configuration and the environment's draw decide what `LAUNCH` does (R134). -/
theorem exec_launch_of_armed {s : State} (hp : s.pstate = .armed) :
    exec .launch s = .next (if (s.launchLegal && !s.env.dispatchFails) = true
      then (s.createLanes.withPState .running).respond false 0 else s.raise .dispatch) :=
  congrArg Host.Outcome.next (whenAdmitted_of_ok _ (by rw [hp]; rfl))

/-- A lane created for an index below `LANES` holds that index: `LANES` is a word (R25, R105). -/
theorem index_of_createLanes {s : State} {i : Nat} {l : Lane} (h : s.createLanes.ctx[i]? = some l) :
    l.index.toNat = i ∧ l.phase = .chk0 := by
  obtain ⟨hi, rfl⟩ := (s.createLanes_getElem? i l).mp h
  exact ⟨(BitVec.toNat_ofNat i 64).trans (Nat.mod_eq_of_lt (hi.trans s.lanes.isLt)), rfl⟩

/-- Settles O26: the checks pass, and the contexts are those of `createLanes`. -/
theorem launchCreatesTheLanes : Obligations.LaunchCreatesTheLanes := by
  intro s hp hlanes hmax hquota hprod hdraw
  have hlegal : s.launchLegal = true :=
    s.launchLegal_iff.mpr ⟨Nat.one_le_iff_ne_zero.mp hlanes, hmax, Nat.one_le_iff_ne_zero.mp hquota, hprod⟩
  have hx := exec_launch_of_armed hp
  rw [if_pos (by rw [hlegal, hdraw]; rfl)] at hx
  exact ⟨s.createLanes.ctx, hx, by simp, fun i l hl => index_of_createLanes hl⟩

/-- R134's grounds for a fault are what fails its checks. -/
theorem launch_check_fails {s : State}
    (h : s.lanes.toNat = 0 ∨ Config.maxLanes < s.lanes.toNat ∨ s.quota.toNat = 0 ∨
      2 ^ 64 ≤ s.lanes.toNat * s.quota.toNat ∨ s.env.dispatchFails = true) :
    ¬ (s.launchLegal && !s.env.dispatchFails) = true := by
  rw [Bool.and_eq_true, s.launchLegal_iff, Bool.not_eq_true']
  rintro ⟨⟨hlanes, hmax, hquota, hprod⟩, hdraw⟩
  obtain h | h | h | h | h := h
  · exact hlanes h
  · exact Nat.not_lt.mpr hmax h
  · exact hquota h
  · exact Nat.not_lt.mpr h hprod
  · exact Bool.false_ne_true (hdraw.symm.trans h)

/-- Settles O27: the checks fail, and what is left is fault entry. -/
theorem launchFailsClosed : Obligations.LaunchFailsClosed := by
  intro s hp h
  have hx := exec_launch_of_armed hp
  rw [if_neg (launch_check_fails h)] at hx
  exact ⟨_, hx, raise_entersFault s .dispatch⟩

/-! ### `SYNC` -/

theorem allReturned_iff_forall_mem (s : State) : s.allReturned = true ↔ ∀ l ∈ s.ctx, l.phase = .ret := by
  simp [State.allReturned]

/-- Settles O28: in `Running` the lanes decide whether `SYNC` completes or is held. -/
theorem syncWaitsForEveryLane : Obligations.SyncWaitsForEveryLane := by
  intro s hp
  have hx := exec_sync_of_running hp
  refine ⟨fun hret => ?returned, fun ⟨l, hl, hne⟩ => ?waiting⟩
  case returned => rwa [if_pos ((allReturned_iff_forall_mem s).mpr hret)] at hx
  case waiting => rwa [if_neg fun h => hne ((allReturned_iff_forall_mem s).mp h l hl)] at hx

/-! ### `NEXT` -/

/-- In `Synced` the flag decides what `NEXT` does (R137). -/
theorem exec_next_of_synced {s : State} (hp : s.pstate = .synced) :
    exec .next s = .next (if s.flag = true then (s.takeResult.withPState .doneFound).respond false 0
      else (s.advance.withPState (if (add s.base s.batchSize).2 = true then .doneExhausted else .idle)).respond false 0) :=
  congrArg Host.Outcome.next (whenAdmitted_of_ok _ (by rw [hp]; rfl))

/-- The batch size is the mathematical product where that fits a word (R137). -/
theorem batchSize_toNat_of_lt {s : State} (h : s.lanes.toNat * s.quota.toNat < 2 ^ 64) :
    s.batchSize.toNat = s.lanes.toNat * s.quota.toNat := by
  rw [State.batchSize, BitVec.toNat_mul, Nat.mod_eq_of_lt h]

/-- Settles O29: the result is latched under a claimed flag, and the advance is the adder's sum by R81's laws 1 and 2. -/
theorem nextEndsTheIteration : Obligations.NextEndsTheIteration := by
  intro s hp
  have hx := exec_next_of_synced hp
  refine ⟨fun hf => ?found, fun hf hprod => ?advanced⟩
  case found => rwa [if_pos hf] at hx
  case advanced =>
    have hsize := batchSize_toNat_of_lt hprod
    obtain ⟨hval, hov⟩ := add_val_and_overflow s.base s.batchSize
    rw [hsize] at hval hov
    rw [if_neg (ne_true_of_eq_false hf), if_congr hov rfl rfl] at hx
    exact ⟨(add s.base s.batchSize).1, s.total + s.batchSize, hx, by rw [BitVec.toNat_add, hsize], hval⟩

end Sys2Proof.Safety
end

section
/-! PROOFS. The exceptions (R172 to R177, R188): the order in which the register accesses trap, what `RDR` answers and
what every other command meets in `Fault`, that a command enters `Fault` by fault entry alone, and that no turn but
reset leaves it. -/

namespace Sys2Proof.Safety

open Sys2Proof Sys2Proof.Machine

/-! ### The register accesses before the register is touched (R173) -/

theorem exec_wrr_of_fault {s : State} (n : RegNum) (hf : s.pstate = .fault) : exec (.wrr n) s = .next s.refuse := by
  simp only [exec, execWrr, if_pos hf]

/-- Outside `Fault` an unimplemented number raises `BAD_REG`: the number is tested before the admission table is asked,
so in `Running` too (R19, R172). -/
theorem exec_access_of_unimplemented {s : State} {n : RegNum} {i : Instr} (hi : i = .wrr n ∨ i = .rdr n)
    (hf : s.pstate ≠ .fault) (hr : Reg.ofNum n = none) : exec i s = .next (s.raise .badReg) := by
  obtain rfl | rfl := hi
  · simp only [exec, execWrr, if_neg hf, hr]
  · simp only [exec, execRdr, if_neg hf, hr]

/-- In `Running` an implemented number meets the admission table's `P`: the write right is not looked at (R22, R173). -/
theorem exec_access_of_running {s : State} {n : RegNum} {r : Reg} {i : Instr} (hi : i = .wrr n ∨ i = .rdr n)
    (hrun : s.pstate = .running) (hr : Reg.ofNum n = some r) : exec i s = .next (s.raise .protocol) := by
  have hwrr : admission .wrr s.pstate = .protocol := by rw [hrun]; rfl
  have hrdr : admission .rdr s.pstate = .protocol := by rw [hrun]; rfl
  obtain rfl | rfl := hi
  · simp [exec, execWrr, hrun, hr, whenAdmitted_of_protocol _ hwrr]
  · simp [exec, execRdr, hrun, hr, whenAdmitted_of_protocol _ hrdr]

/-- Settles O21: each of the three tests ends in fault entry or in the refusal. -/
theorem registerAccessTrapsInOrder : Obligations.RegisterAccessTrapsInOrder := by
  intro s n i hi
  refine ⟨fun hf hr => ?unimplemented, fun hrun hr => ?running, fun hf hw => ?refusal⟩
  case unimplemented => exact ⟨_, exec_access_of_unimplemented hi hf hr, raise_entersFault s .badReg⟩
  case running =>
    obtain ⟨r, hr⟩ := Option.ne_none_iff_exists'.mp hr
    exact ⟨_, exec_access_of_running hi hrun hr, raise_entersFault s .protocol⟩
  case refusal => exact ⟨_, hw ▸ exec_wrr_of_fault n hf, refuse_refused s⟩

/-! ### Commands in `Fault` (R176) -/

theorem readsInFault_iff {r : Reg} : readsInFault r = true ↔ r ∈ [.status, .fcode, .finfo] := by
  cases r <;> decide

theorem exec_rdr_of_fault_unimplemented {s : State} {n : RegNum} (hf : s.pstate = .fault) (hr : Reg.ofNum n = none) :
    exec (.rdr n) s = .next s.refuse := by
  simp only [exec, execRdr, hr, if_pos hf]

/-- In `Fault` an implemented register answers its own value where that is still defined, and the next draw elsewhere
(R176). -/
theorem exec_rdr_of_fault {s : State} {n : RegNum} {r : Reg} (hf : s.pstate = .fault) (hr : Reg.ofNum n = some r) :
    exec (.rdr n) s = .next (if readsInFault r = true then s.respond false (s.readReg r) else s.respondDraw) := by
  have ha : admission .rdr s.pstate = .ok := by rw [hf]; rfl
  cases hd : readsInFault r <;> simp [exec, execRdr, hr, hf, hd, whenAdmitted_of_ok _ ha]

/-- Settles O20: the three registers are those that `readsInFault` lists, and the free value is the next draw. -/
theorem rdrInFault : Obligations.RdrInFault := by
  intro s n hf
  refine ⟨fun hr => ⟨_, exec_rdr_of_fault_unimplemented hf hr, refuse_refused s⟩, fun r hr => ?_⟩
  have hx := exec_rdr_of_fault hf hr
  refine ⟨fun hmem => ?defined, fun hmem => ?free⟩
  case defined => rwa [if_pos (readsInFault_iff.mpr hmem)] at hx
  case free =>
    rw [if_neg (mt readsInFault_iff.mp hmem)] at hx
    exact ⟨Config.faultRead s.draws, hx⟩

/-- Settles O42: `WRR` by its own test, and the commands without a register number by the table's column of `Fault`,
which is O30's second part. -/
theorem faultRefusesCommands : Obligations.FaultRefusesCommands := by
  intro i s hf hc hnop hrdr
  cases i with
  | nop => exact absurd rfl hnop
  | rdr n => exact absurd rfl (hrdr n)
  | wrr n => exact ⟨_, exec_wrr_of_fault n hf, refuse_refused s⟩
  | wadd | lstart | bmatch | breset | launch | sync | next =>
    exact (commandsOutOfOrderTrap _ s (by decide)).2 hf
  | lChk0 | lStart | lLoop | lChk | lCmp | lCas | lWrlo | lWrhi | lInc => cases hc

/-! ### Entering `Fault` (R175, R188) -/

/-- The only way an instruction enters `Fault` is the fault entry of a command: every other effect keeps `pstate` or goes
to a state that is not `Fault`. -/
theorem eq_raise_of_enters_fault {i : Instr} {s t : State} (hs : s.pstate ≠ .fault) (h : exec i s = .next t)
    (ht : t.pstate = .fault) : isCommand i = true ∧ ∃ c, t = s.raise c := by
  cases executes_of_exec h with
  | faulted c hc => exact ⟨hc, c, rfl⟩
  | refused | nothing | read | drawn | computed | held | stepped => exact absurd ht hs
  | wrote => exact absurd (by simpa using ht) hs
  | armed | launched | synced | found => cases ht
  | advanced _ _ hq => obtain rfl | rfl := hq <;> cases ht

/-- Settles O41: what the command leaves is `State.raise`, with one of R171's codes. -/
theorem faultsArePrecise : Obligations.FaultsArePrecise := by
  intro i s t hs h ht
  obtain ⟨hc, c, rfl⟩ := eq_raise_of_enters_fault hs h ht
  have hcode : (s.raise c).fcode ≠ .none := (faultRecorded_of_exec hc h ht).resolve_left hs
  exact ⟨hc, hcode, raise_entersFault s c⟩

/-! ### `Fault` lasts until reset (R177) -/

/-- `pstate`, FCODE and FINFO: what can still be read in `Fault` (R176). -/
def faultRecord (s : State) : PState × FaultCode × CmdWord := (s.pstate, s.fcode, s.finfo)

/-- In `Fault` an instruction is refused or answers; it has no other effect. -/
theorem exec_faultRecord {i : Instr} {s t : State} (hf : s.pstate = .fault) (h : exec i s = .next t) :
    faultRecord t = faultRecord s := by
  cases executes_of_exec h with
  | refused | nothing | read | drawn => rfl
  | faulted _ _ _ hp => exact absurd hf hp
  | wrote _ _ _ hp | computed _ _ _ _ hp => exact absurd hf hp
  | armed hp => obtain hp | hp := hp <;> cases hp.symm.trans hf
  | launched hp | synced hp | held hp | found hp | advanced hp => cases hp.symm.trans hf
  | stepped _ _ _ _ _ hp => cases hp.symm.trans hf

theorem Turns.faultRecord_eq {u t : State} (h : Turns u t) (hf : u.pstate = .fault) : faultRecord t = faultRecord u := by
  cases h with
  | passed => rfl
  | illegal => rw [illegalCommand_refused hf]; rfl
  | ran hx => exact exec_faultRecord hf hx

/-- Settles O43: a turn other than reset's changes only the port's inputs before its instruction, and the instruction
keeps the record. -/
theorem faultIsSticky : Obligations.FaultIsSticky := by
  intro s t hf hr h
  obtain ⟨_, _, _, ht⟩ := turns_of_step hr h
  have heq := ht.faultRecord_eq hf
  simp only [faultRecord, Prod.mk.injEq] at heq
  obtain ⟨hp, hcode, hinfo⟩ := heq
  exact ⟨hp.trans hf, hcode, hinfo⟩

end Sys2Proof.Safety
end

section
/-! PROOFS. The reset input (R200, R201): driving it to 1 puts the block in the reset state, under it every other turn
passes without touching the host's offers, and the reset state meets the block's invariant. -/

namespace Sys2Proof.Safety

open Sys2Proof Sys2Proof.Machine

/-! ### Under reset (R200) -/

theorem driveRst_true (s : State) : s.driveRst true = s.resetBlock true := by
  simp [State.driveRst]

theorem fetchHost_of_rst {s : State} (hr : s.rst = true) : fetchHost s = .settled s := by
  simp [fetchHost, hr]

theorem fetchLane_of_rst {s : State} (hr : s.rst = true) : fetchLane s = .settled s := by
  simp [fetchLane, hr]

/-- Under reset the port accepts nothing: what the host offers stays offered. -/
theorem offers_of_step_of_rst {s t : State} (hr : s.rst = true) (hn : nextTurnIsReset s = false)
    (h : step s = .next t) : t.env.offers = s.env.offers := by
  rw [step_eq_next_iff, fetch] at h
  split at h
  · exact h ▸ rfl
  · rw [fetchHost_of_rst (by simpa using hr)] at h
    exact h ▸ rfl
  · rw [fetchLane_of_rst (by simpa using hr)] at h
    exact h ▸ rfl
  · next hts => simp [nextTurnIsReset, hts] at hn

/-- Settles O48: driving 1 resets the block whatever it held, and under it a turn of the port or of a lane passes. -/
theorem resetHoldsTheBlock : Obligations.ResetHoldsTheBlock := by
  refine ⟨fun s ts hts => ?driven, fun s hr hn => ?passes⟩
  case driven =>
    have hstep := step_of_rst_turn hts
    rw [driveRst_true] at hstep
    exact ⟨_, hstep, rfl, rfl, rfl, rfl, rfl, readReg_resetBlock _ _, rfl⟩
  case passes =>
    obtain ⟨e, he⟩ := step_of_rst hr hn
    exact ⟨e, he, offers_of_step_of_rst hr hn he⟩

/-! ### The invariant at reset (R30, R201) -/

/-- A reset with the input back at 0 leaves `State.reset` as it is. -/
theorem resetBlock_reset : State.reset.resetBlock false = State.reset := rfl

/-- Settles O55: `State.reset` is the reset state at level 0, which meets the invariant. -/
theorem resetMeetsTheInvariant : Obligations.ResetMeetsTheInvariant := by
  have h := blockInv_resetBlock State.reset false
  rw [resetBlock_reset] at h
  exact h

end Sys2Proof.Safety
end

section
/-! PROOFS. The adder at a reduced width of its halves (R4), the form in which its wrap at the top is tested. -/

namespace Sys2Proof.Machine

/-- Two halves as one number stay below `2^(2W)`: they are the digits of their concatenation. -/
theorem halves_lt {w : Nat} (hi lo : BitVec w) : hi.toNat * 2 ^ w + lo.toNat < 2 ^ (2 * w) := by
  rw [← toNat_append_eq, two_mul]
  exact (hi ++ lo).isLt

/-- Settles O3: the result's halves balance the exact sum with the overflow, and they are below `2^(2W)`. -/
theorem reducedWidthAdderWrapsAtTheTop : Obligations.ReducedWidthAdderWrapsAtTheTop := fun _ alo ahi delta _ =>
  mod_and_wraps_of_balance (addHalves_balance alo ahi delta) (halves_lt _ _)

end Sys2Proof.Machine
end

section
/-! PROOFS. The block's invariant as the statement of the whole step (R13, R16, R48, R55, R91, R117, R142). -/

namespace Sys2Proof.Safety

open Sys2Proof Sys2Proof.Machine

/-- Settles O56: a turn of the reset input lands in the reset state or leaves the block as it is, under reset every other
turn passes, and otherwise a turn runs an instruction or answers an illegal word, and each of these keeps the invariant. -/
theorem everyStepKeepsTheInvariant : Obligations.EveryStepKeepsTheInvariant := fun _ _ h hx => h.step hx

end Sys2Proof.Safety
end
